-- ==== Sys2Proof/Config.lean ====
section
/-! DEFINITION. What the part fixes: capacities, ranges and allowances. The rules leave no value free, so there is no opaque constant (log entry 23). -/
namespace Sys2Proof.Config

/-- R17: the most records the table holds. -/
def tableCapacity : Nat := 512

/-- R69: the most entries of the suspect list. -/
def suspectCapacity : Nat := 16

/-- R64: the most entries of a report that the monitor keeps. -/
def reportEntries : Nat := 48

/-- R2: the greatest row and column counts, which are the counts after a hard reset. -/
def maxRows : Nat := 128
def maxCols : Nat := 256

/-- R7: the greatest TRIM gain. -/
def maxGain : Nat := 2047

/-- R42: the greatest applied count and running applied count. -/
def greatestAppliedCount : Nat := 512

/-- R42, R59: the range of DRIVE_MAX, whose greatest value is its hard-reset value (R61). -/
def leastDriveMax : Nat := 255
def greatestDriveMax : Nat := 4095

/-- R65: the range of DEBOUNCE and its hard-reset value (R86). -/
def leastDebounce : Nat := 2
def greatestDebounce : Nat := 32
def resetDebounce : Nat := 4

/-- R65: the range of HEAL_PROBES and its hard-reset value (R86). -/
def leastHealProbes : Nat := 1
def greatestHealProbes : Nat := 15
def resetHealProbes : Nat := 3

/-- R69: the greatest count of a suspect. -/
def greatestSuspectCount : Nat := 32

/-- R10, R152: where the fault count and the further-count stay. -/
def greatestFaultCount : Nat := 255

/-- R10: where the heal count stays. -/
def greatestHealCount : Nat := 15

/-- R181: the answer maximum, in bytes. -/
def answerMaximum : Nat := 96

/-- R176: the most bytes of a write that the port acknowledges, and the greatest parameter length. -/
def requestBytes : Nat := 26
def requestParams : Nat := 24

/-- R157: the allowances, in milliseconds. -/
def eraseAllowance : Nat := 400
def programAllowance : Nat := 5
def idleAllowance : Nat := 400

/-- R157: the command codes of the flash. -/
def readStatusCode : BitVec 8 := 0x05#8
def writeEnableCode : BitVec 8 := 0x06#8
def sectorEraseCode : BitVec 8 := 0x20#8
def pageProgramCode : BitVec 8 := 0x02#8
def readDataCode : BitVec 8 := 0x03#8

/-- R158: the format word, the header's length, where the records start, a record slot's length, the slots of a page and the bytes of a sector. -/
def formatWord : BitVec 16 := 0x5C01#16
def headerBytes : Nat := 32
def recordsOffset : Nat := 256
def slotBytes : Nat := 16
def slotsPerPage : Nat := 16
def pageBytes : Nat := 256
def sectorBytes : Nat := 4096

/-- R160: the sectors a save erases. -/
def sectorsErased : Nat := 3

/-- R175: the group address and the unit address base. -/
def groupAddress : BitVec 7 := 0x57#7
def unitAddressBase : BitVec 7 := 0x58#7

/-- R179: the ABORT byte. -/
def abortByte : BitVec 8 := 0xA5#8

end Sys2Proof.Config
end

