-- ==== Sys2Proof/Word.lean ====
section
/-! DEFINITION. The words the ET512's interfaces carry. -/
namespace Sys2Proof

/-- One byte on the service port or the store link. -/
abbrev Byte := BitVec 8

/-- A two-byte field. -/
abbrev Word16 := BitVec 16

/-- A four-byte field: the generation number (R33). -/
abbrev Word32 := BitVec 32

/-- A frame number (00 "Frame numbers"): 32 bits, wrapping. -/
abbrev FrameNo := BitVec 32

/-- A video level, 0 to 4095 (R44). -/
abbrev Level := BitVec 12

end Sys2Proof
end

