-- ==== Sys2Proof/Syntax.lean ====
section
/-! DEFINITION. The commands: one constructor per row of spec/opcode_table.json, and the types of their operands. -/
namespace Sys2Proof

/-- R1, 00 "Colours and channels". -/
inductive Colour where
  | red | green | blue
  deriving DecidableEq, Repr

/-- R64: OPEN or SHORT. -/
inductive FaultKind where
  | openCircuit | shortCircuit
  deriving DecidableEq, Repr

/-- R64: one entry of a fault report as it arrives. A colour or kind that is none of the values of R64 is `none`: the entry is kept and later ignored (R71; log entry 14). -/
structure ReportEntry where
  row : Byte
  col : Byte
  colour : Option Colour
  kind : Option FaultKind
  deriving DecidableEq, Repr

/-- R64: a fault report. -/
structure Report where
  frame : FrameNo
  truncated : Bool
  entries : List ReportEntry
  deriving DecidableEq, Repr

/-- R175, R180: the address a service command came by. -/
inductive Via where
  | unit | group
  deriving DecidableEq, Repr

/-- R185: one colour's mode byte (bit 7 the auto marker) and value. -/
structure ActionImage where
  mode : Byte
  value : Word16
  deriving DecidableEq, Repr

/-- R185: the record image, 15 bytes. -/
structure RecordImage where
  row : Byte
  col : Byte
  origin : Byte
  status : Byte
  red : ActionImage
  green : ActionImage
  blue : ActionImage
  tag : Word16
  deriving DecidableEq, Repr

/-- R128, R185: the parameters of SWEEP, 12 bytes. -/
structure SweepParams where
  originSet : Byte
  statusSet : Byte
  firstRow : Byte
  lastRow : Byte
  tagPresence : Byte
  tagMatch : Word16
  action : Byte
  actionValue : Word16
  limit : Word16
  deriving DecidableEq, Repr

/-- The commands, in the order of spec/opcode_table.json. -/
inductive Instr where
  /-- HARD_RESET (R39): power-on or RST_N, with the level of AUTOLOAD read at its end (R167). -/
  | hardReset (autoload : Bool)
  /-- SVC_EN_CHANGE (R148): SVC_EN is now asserted or deasserted. -/
  | svcEnChange (asserted : Bool)
  /-- FRAME_START (R45, R53, R54). -/
  | frameStart
  /-- HELD_FRAME_START (R53). -/
  | heldFrameStart
  /-- PIXEL_LEVEL (R44). -/
  | pixelLevel (level : Level)
  /-- VIDEO_TIMER_EXPIRY (R53, R56). -/
  | videoTimerExpiry
  /-- BLANK_SEND_OVER (R57). -/
  | blankSendOver
  /-- FAULT_REPORT (R67). -/
  | faultReport (report : Report)
  /-- REQUEST_ACCEPT (R177): the first data byte of a write at an address. -/
  | requestAccept (address : BitVec 7) (byte : Byte)
  /-- REQUEST_WRITE (R176): the end of a write that carries no executable command, with all its data bytes. -/
  | requestWrite (address : BitVec 7) (bytes : List Byte)
  /-- ANSWER_READ (R178): a read transaction in which the master takes `count` bytes. -/
  | answerRead (address : BitVec 7) (count : Nat)
  /-- ABORT (R179): the end of a unit write that began 0xA5, with the number of further bytes. -/
  | abort (further : Nat)
  /-- DESCRIBE (R181). -/
  | describe
  /-- STATUS (R182). -/
  | status
  /-- READ_EVENTS (R172). -/
  | readEvents
  /-- SET_EVENT_MASK (R173). -/
  | setEventMask (mask : Word16)
  /-- READ_VIOLATION (R154). -/
  | readViolation
  /-- OPEN_SERVICE (R149). -/
  | openService
  /-- CLOSE_SERVICE (R150). -/
  | closeService (via : Via)
  /-- RESTART (R183). -/
  | restart (via : Via)
  /-- SET_GEOMETRY (R3): rows less one, columns less one. -/
  | setGeometry (rowsLessOne colsLessOne : Byte)
  /-- SET_DRIVE (R59): DRIVE_MAX and the interval code. -/
  | setDrive (via : Via) (driveMax : Word16) (interval : Byte)
  /-- SET_MONITOR (R80). -/
  | setMonitor (via : Via) (debounce healProbes enable : Byte)
  /-- INSERT (R110). -/
  | insert (image : RecordImage)
  /-- AMEND (R113). -/
  | amend (select : Byte) (image : RecordImage)
  /-- RETIRE (R119). -/
  | retire (row col : Byte)
  /-- LOOKUP (R121). -/
  | lookup (row col : Byte)
  /-- NEXT (R123). -/
  | next (row col : Byte)
  /-- SWEEP (R128). -/
  | sweep (params : SweepParams)
  /-- SUSPECTS (R82). -/
  | suspects
  /-- CLEAR_SUSPECTS (R83). -/
  | clearSuspects
  /-- SAVE (R159). -/
  | save (via : Via)
  /-- LOAD (R163). -/
  | load
  /-- FIND_BY_KEY (R21). -/
  | findByKey
  /-- FIND_FIRST_AT_OR_AFTER (R21). -/
  | findFirstAtOrAfter
  /-- TABLE_INSERT (R111). -/
  | tableInsert
  /-- PROMOTION_INSERT (R76). -/
  | promotionInsert
  /-- TABLE_AMEND (R24). -/
  | tableAmend
  /-- REMOVE (R25). -/
  | remove
  /-- FAULT_UPDATE (R26). -/
  | faultUpdate
  /-- STAMP_PROBE_FRAME (R27). -/
  | stampProbeFrame
  /-- SWEEP_STEP (R132). -/
  | sweepStep
  /-- HEAL_STEP (R92). -/
  | healStep
  /-- STATUS_READ (R22). -/
  | statusRead
  /-- GEOMETRY_CHANGE (R3). -/
  | geometryChange
  /-- PROTECTION_TEST (R146). -/
  | protectionTest
  /-- BEGIN_SAVE (R160). -/
  | beginSave
  /-- SAVE_READ (R161). -/
  | saveRead
  /-- END_SAVE (R161). -/
  | endSave
  /-- BEGIN_LOAD (R164). -/
  | beginLoad
  /-- LOAD_GEOMETRY (R164). -/
  | loadGeometry
  /-- LOAD_INSERT (R165). -/
  | loadInsert
  /-- END_LOAD (R166). -/
  | endLoad
  /-- READ_STATUS (R157): a read status transaction ends with the status byte read. -/
  | readStatus (statusByte : Byte)
  /-- WRITE_ENABLE (R157). -/
  | writeEnable
  /-- SECTOR_ERASE (R160). -/
  | sectorErase
  /-- PAGE_PROGRAM (R161). -/
  | pageProgram
  /-- READ_DATA (R165): a read data transaction ends with the bytes read. -/
  | readData (bytes : List Byte)
  /-- FLASH_TIMEOUT (R157). -/
  | flashTimeout
  deriving DecidableEq, Repr

end Sys2Proof
end

