-- ==== Sys2Proof/Decode.lean ====
section
/-! DEFINITION. Decoding: the table gives no row any bits, so no word spells a command; and the port's own reading of the bytes of a write (R176, R185). -/
namespace Sys2Proof

/-- No row of spec/opcode_table.json gives bits, so no word spells a command. -/
def decodeTableWord (_nbits _w : Nat) : Option Instr := none

/-- Two bytes of a big-endian field (00 "Byte order"). -/
def word16 (hi lo : Byte) : Word16 := hi ++ lo

/-- R185: the record image laid out in 15 bytes. -/
def recordImageOfBytes : List Byte → Option RecordImage
  | [row, col, origin, status, rm, rh, rl, gm, gh, gl, bm, bh, bl, th, tl] =>
    some ⟨row, col, origin, status, ⟨rm, word16 rh rl⟩, ⟨gm, word16 gh gl⟩, ⟨bm, word16 bh bl⟩,
      word16 th tl⟩
  | _ => none

/-- R185: the sweep parameters laid out in 12 bytes. -/
def sweepParamsOfBytes : List Byte → Option SweepParams
  | [os, ss, fr, lr, tp, th, tl, ac, vh, vl, lh, ll] =>
    some ⟨os, ss, fr, lr, tp, word16 th tl, ac, word16 vh vl, word16 lh ll⟩
  | _ => none

/-- R176: the parameter length of each command code; `none` is no command code of the part. -/
def paramLength (code : Byte) : Option Nat :=
  match code.toNat with
  | 0x01 | 0x02 | 0x03 | 0x05 | 0x06 | 0x07 | 0x08 => some 0
  | 0x04 | 0x10 => some 2
  | 0x11 | 0x12 => some 3
  | 0x20 => some 15
  | 0x21 => some 16
  | 0x22 | 0x23 | 0x24 => some 2
  | 0x25 => some 12
  | 0x28 | 0x29 | 0x30 | 0x31 => some 0
  | _ => none

/-- R180: the codes that the group address takes. -/
def takenByGroup (code : Byte) : Bool :=
  match code.toNat with
  | 0x07 | 0x08 | 0x11 | 0x12 | 0x30 => true
  | _ => false

/-- R185: the commands without parameters. -/
def bareCommand (via : Via) (code : Byte) : Option Instr :=
  match code.toNat with
  | 0x01 => some .describe
  | 0x02 => some .status
  | 0x03 => some .readEvents
  | 0x05 => some .readViolation
  | 0x06 => some .openService
  | 0x07 => some (.closeService via)
  | 0x08 => some (.restart via)
  | 0x28 => some .suspects
  | 0x29 => some .clearSuspects
  | 0x30 => some (.save via)
  | 0x31 => some .load
  | _ => none

/-- R185: the commands with two parameter bytes. -/
def pairCommand (code x y : Byte) : Option Instr :=
  match code.toNat with
  | 0x04 => some (.setEventMask (word16 x y))
  | 0x10 => some (.setGeometry x y)
  | 0x22 => some (.retire x y)
  | 0x23 => some (.lookup x y)
  | 0x24 => some (.next x y)
  | _ => none

/-- R185: the commands with three parameter bytes. -/
def tripleCommand (via : Via) (code x y z : Byte) : Option Instr :=
  match code.toNat with
  | 0x11 => some (.setDrive via (word16 x y) z)
  | 0x12 => some (.setMonitor via x y z)
  | _ => none

/-- R185: the commands with an image or a sweep's parameters. -/
def longCommand (code : Byte) (params : List Byte) : Option Instr :=
  match code.toNat with
  | 0x20 => (recordImageOfBytes params).map .insert
  | 0x21 => (recordImageOfBytes params.tail).map (.amend (params.headD 0))
  | 0x25 => (sweepParamsOfBytes params).map .sweep
  | _ => none

/-- R176, R185: the command of a code and its parameter bytes. -/
def commandOf (via : Via) (code : Byte) : List Byte → Option Instr
  | [] => bareCommand via code
  | [x, y] => pairCommand code x y
  | [x, y, z] => tripleCommand via code x y z
  | params => longCommand code params

/-- R176: what a write that holds at least one byte turns out to be. -/
inductive ParsedWrite where
  | malformed
  | unknown
  | command (i : Instr)
  deriving DecidableEq, Repr

/-- R176: the checks of a request, in their order. A write of more than 26 bytes has a count that is not n + 2 or a length above 24. -/
def parseRequest (via : Via) : List Byte → ParsedWrite
  | code :: n :: params =>
    if Config.requestParams < n.toNat ∨ params.length ≠ n.toNat then .malformed
    else
      match paramLength code with
      | none => .unknown
      | some len =>
        if n.toNat ≠ len then .malformed
        else
          match commandOf via code params with
          | none => .malformed
          | some i => .command i
  | _ => .malformed

end Sys2Proof
end

