-- ==== Sys2Proof/Machine/State.lean ====
section
/-! DEFINITION. The state of the ET512, block by block, as plain data, and its value after reset. -/
namespace Sys2Proof.Machine

/-- No rule gives the part a stop: every command leaves a next state (log entry 23). -/
inductive Fault
  deriving DecidableEq, Repr

/-- Why a command is refused. -/
inductive Refusal where
  /-- Raised by an arm of exec that has no meaning yet; safe: a run stops there. No arm raises it now. -/
  | notModelled (mnemonic : String)
  deriving DecidableEq, Repr

/-! ## Records (chapter 1) -/

/-- R1: the name of an emitter. -/
structure Key where
  row : Nat
  col : Nat
  deriving DecidableEq, Repr

/-- R5. -/
inductive Origin where
  | factory | service | detected
  deriving DecidableEq, Repr

/-- R6. -/
inductive Status where
  | active | dormant
  deriving DecidableEq, Repr

/-- R7. -/
inductive Mode where
  | pass | trim | mute | hold
  deriving DecidableEq, Repr

/-- R7, R8: what is done with one colour, and its auto marker. -/
structure Action where
  mode : Mode
  value : Nat
  auto : Bool
  deriving DecidableEq, Repr

/-- 1.3: the persistent fields. -/
structure Persistent where
  key : Key
  origin : Origin
  status : Status
  red : Action
  green : Action
  blue : Action
  tag : Word16
  deriving DecidableEq, Repr

/-- R10: the last fault and the last fault frame, which are present or absent together (log entry 22). -/
structure LastFault where
  colour : Colour
  kind : FaultKind
  frame : FrameNo
  deriving DecidableEq, Repr

/-- R10: the volatile fields. -/
structure Volatile where
  faultCount : Nat
  lastFault : Option LastFault
  probeFrame : Option FrameNo
  healCount : Nat
  deriving DecidableEq, Repr

/-- R10: the values with which a record enters the table. -/
def Volatile.entry : Volatile := ⟨0, none, none, 0⟩

/-- 1.3: a correction record. -/
structure Record where
  pers : Persistent
  vol : Volatile
  deriving DecidableEq, Repr

/-! ## Table controller (chapter 2) -/

/-- R2: row and column counts. -/
structure Geometry where
  rows : Nat
  cols : Nat
  deriving DecidableEq, Repr

/-- R2: 128 rows by 256 columns. -/
def Geometry.default : Geometry := ⟨Config.maxRows, Config.maxCols⟩

/-- R34. -/
inductive TableState where
  | ready | loading
  deriving DecidableEq, Repr

/-- R17, R33, R34, R36, R2: what the table controller holds. -/
structure Table where
  records : List Record
  generation : Word32
  state : TableState
  saveHold : Bool
  geometry : Geometry
  deriving DecidableEq, Repr

/-- R147. -/
inductive AccessLevel where
  | operator | service
  deriving DecidableEq, Repr

/-- R19, R20: the clients, in the arbiter's order. -/
inductive Client where
  | walker | store | monitor | engine
  deriving DecidableEq, Repr

/-- R18's table: the walker's operations. -/
inductive WalkerReq where
  | find (key : Key)
  | stamp (key : Key) (frame : FrameNo) (colours : List Colour)
  deriving DecidableEq, Repr

/-- R30 to R32: the image store's operations. -/
inductive StoreReq where
  | beginSave
  | saveRead (position : Option Key)
  | endSave
  | beginLoad
  | loadGeometry (geometry : Geometry)
  | loadInsert (fields : Persistent)
  | endLoadSuccess (generation : Word32)
  | endLoadFailure
  deriving DecidableEq, Repr

/-- The fault monitor's operations: R70, R72, R75, R92. -/
inductive MonitorReq where
  | find (key : Key)
  | faultUpdate (key : Key) (colour : Colour) (kind : FaultKind) (frame : FrameNo)
  | promote (key : Key) (colour : Colour) (kind : FaultKind) (frame : FrameNo)
  | heal (position : Option Key) (frame : FrameNo) (healProbes : Nat)
  deriving DecidableEq, Repr

/-- R131: the filter of a sweep. -/
structure SweepFilter where
  factory : Bool
  service : Bool
  detected : Bool
  active : Bool
  dormant : Bool
  firstRow : Nat
  lastRow : Nat
  tag : Option Word16
  deriving DecidableEq, Repr

/-- R129. -/
inductive SweepAction where
  | activate | makeDormant | retire | clearFaults | retag
  deriving DecidableEq, Repr

/-- The command engine's operations. A key from a request is carried as its row and column bytes (R1). -/
inductive EngineReq where
  | find (row col : Byte)
  | findFirst (row col : Byte)
  | insert (image : RecordImage)
  | amend (select : Byte) (image : RecordImage)
  | remove (row col : Byte)
  | sweepStep (position : Option Key) (filter : SweepFilter) (action : SweepAction) (value : Word16)
  | statusRead
  | geometryChange (geometry : Geometry)
  | protectionTest
  deriving DecidableEq, Repr

/-- R19, R20: the request of each client, waiting or in progress, the client whose operation is in progress, and the access level that operation read at its grant (log entry 2). -/
structure Arbiter where
  walker : Option WalkerReq
  store : Option StoreReq
  monitor : Option MonitorReq
  engine : Option EngineReq
  inProgress : Option Client
  levelAtGrant : AccessLevel
  deriving DecidableEq, Repr

/-! ## Raster walker (chapter 3) -/

/-- R42. -/
inductive WalkerState where
  | idle | walking | waiting | blank
  deriving DecidableEq, Repr

/-- R42, R59: the probe cadences. -/
inductive ProbeInterval where
  | off | every16 | every32 | every64 | every128 | every256
  deriving DecidableEq, Repr

/-- R42, R55 (log entry 7). -/
inductive VideoTimer where
  | stopped | running
  deriving DecidableEq, Repr

/-- R45: the settings taken at a frame start. -/
structure FrameLatches where
  geometry : Geometry
  driveMax : Nat
  probeInterval : ProbeInterval
  probeFrame : Bool
  deriving DecidableEq, Repr

/-- R54 step 1, R56 step 1: how the frame in hand ends once the walker's request is finished. -/
inductive Ending where
  | short | lost
  deriving DecidableEq, Repr

/-- R42, R53. -/
structure Walker where
  state : WalkerState
  frameNumber : FrameNo
  lastCompleted : Option FrameNo
  appliedCount : Nat
  driveMax : Nat
  probeInterval : ProbeInterval
  latches : FrameLatches
  position : Key
  running : Nat
  timer : VideoTimer
  blankSend : Option Geometry
  /-- R51: the levels of the frame in hand that the pixel input holds, from the first level of the emitter at the position (log entry 9). -/
  levels : List Level
  /-- R44, R53: how many of the frame's levels have arrived. -/
  arrived : Nat
  /-- R53: a frame start is held. -/
  held : Bool
  /-- The levels that arrived after the held frame start. -/
  heldLevels : List Level
  /-- R53: a timer expiry is held. -/
  heldExpiry : Bool
  ending : Option Ending
  deriving DecidableEq, Repr

/-! ## Fault monitor (chapters 4 and 5) -/

/-- R66. -/
inductive MonitorState where
  | off | idle | processing | healing
  deriving DecidableEq, Repr

/-- R69. -/
inductive SuspectState where
  | counting | held
  deriving DecidableEq, Repr

/-- R69: one suspect channel. -/
structure Suspect where
  key : Key
  colour : Colour
  kind : FaultKind
  count : Nat
  lastFrame : FrameNo
  state : SuspectState
  deriving DecidableEq, Repr

/-- R68: a request waiting for a step point. -/
inductive MonitorAsk where
  | emptyList
  | loadStart
  | loadEnd (debounce healProbes : Nat) (enable : Bool)
  | setMonitor (via : Via) (debounce healProbes : Nat) (enable : Bool)
  | suspects
  | clearSuspects
  deriving DecidableEq, Repr

/-- R65, R70, R91. -/
structure Monitor where
  state : MonitorState
  enable : Bool
  debounce : Nat
  healProbes : Nat
  inHand : Option Report
  latchedDebounce : Nat
  latchedHealProbes : Nat
  entryPosition : Nat
  buffer : Option Report
  suspects : List Suspect
  loadMark : Bool
  waiting : List MonitorAsk
  /-- R70: the place in the suspect list of the entry being checked. -/
  checkPosition : Nat
  /-- R91. -/
  healPosition : Option Key
  deriving DecidableEq, Repr

/-! ## Command engine (chapters 7 and 11) -/

/-- R184: the result codes. -/
inductive ResultCode where
  | ok | started | aborted | endOfTable | malformed | unknown | badField | outOfRange | exists_
  | noRecord | tableFull | protected_ | notPermitted | storeBusy | notEmpty
  deriving DecidableEq, Repr

/-- R177: an answer. -/
structure Answer where
  code : ResultCode
  data : List Byte
  deriving DecidableEq, Repr

/-- R131: the sweep context, but for the abort mark. -/
structure SweepContext where
  filter : SweepFilter
  action : SweepAction
  value : Word16
  limit : Nat
  position : Option Key
  examined : Nat
  changed : Nat
  skipped : Nat
  lastGeneration : Word32
  deriving DecidableEq, Repr

/-- R130, R131: a sweep before and after its start checks; before them with the geometry in force when SWEEP was taken (R4 item 4; log entry 32). -/
inductive SweepWork where
  | starting (params : SweepParams) (geometry : Geometry)
  | stepping (context : SweepContext)
  deriving DecidableEq, Repr

/-- R131, R136: a sweep in hand with its abort mark. -/
structure Sweep where
  work : SweepWork
  abortMark : Bool
  deriving DecidableEq, Repr

/-- R177: the command in hand. -/
structure Job where
  code : Byte
  via : Via
  sweep : Option Sweep
  deriving DecidableEq, Repr

/-- R177, R179, R180: how the first data byte of the write being received was treated (log entry 27). -/
inductive PortWrite where
  | none | unitAccepted | unitRefused | abortByte | groupAccepted | groupRefused
  deriving DecidableEq, Repr

/-- R177: the engine is EXECUTING while a command is in hand; the buffer is READY while it holds an answer. -/
structure Engine where
  hand : Option Job
  answer : Option Answer
  write : PortWrite
  deriving DecidableEq, Repr

/-! ## Access control (chapter 8) -/

/-- R152. -/
structure Violation where
  code : Byte
  key : Option Key
  level : AccessLevel
  refusal : ResultCode
  deriving DecidableEq, Repr

/-- R147, R152. -/
structure Access where
  level : AccessLevel
  violation : Option Violation
  furtherCount : Nat
  deriving DecidableEq, Repr

/-! ## Image store (chapter 9) -/

/-- R158, R185: the header's contents, but for the format word, the filler and the CRC. -/
structure Header where
  count : Nat
  generation : Word32
  geometry : Geometry
  driveMax : Nat
  probeInterval : ProbeInterval
  debounce : Nat
  healProbes : Nat
  enable : Bool
  deriving DecidableEq, Repr

/-- R156, R160, R161: the sequencing of a save. `header` is absent until begin save. -/
structure SaveWork where
  header : Option Header
  crc : Word16
  erased : Nat
  position : Option Key
  page : List Byte
  pagesProgrammed : Nat
  recordsEnded : Bool
  headerProgrammed : Bool
  faulted : Bool
  deriving DecidableEq, Repr

/-- R156, R164 to R166: the sequencing of a load. `header` is absent until accepted, `ended` until the end load operation is made with success or failure. -/
structure LoadWork where
  header : Option Header
  headerCrc : Word16
  crc : Word16
  slots : Nat
  lastKey : Option Key
  ended : Option Bool
  deriving DecidableEq, Repr

/-- R156: the store state with its sequencing. -/
inductive StoreWork where
  | idle
  | saving (work : SaveWork)
  | loading (work : LoadWork)
  deriving DecidableEq, Repr

/-- R156. -/
inductive StoreState where
  | idle | saving | loading
  deriving DecidableEq, Repr

/-- R156. -/
inductive StoreResult where
  | none | saved | saveFault | loaded | imageBad
  deriving DecidableEq, Repr

/-- R157: an erase or a program. -/
inductive ArrayCommand where
  | erase (address : Nat)
  | program (address : Nat) (bytes : List Byte)
  deriving DecidableEq, Repr

/-- R156, R157: the flash operation in hand. -/
inductive FlashOp where
  | none
  | polling (allowance : Nat)
  | enabling (command : ArrayCommand)
  | running (command : ArrayCommand)
  | reading (address length : Nat)
  deriving DecidableEq, Repr

/-- R159, R163: the table operation with which an accepted save or load begins. -/
inductive BeginReq where
  | save | load
  deriving DecidableEq, Repr

/-- R156. -/
structure Store where
  work : StoreWork
  lastResult : StoreResult
  flash : FlashOp
  /-- R159, R163: the operation for which the store has yet to ask since STARTED was answered (log entry 29). -/
  due : Option BeginReq
  deriving DecidableEq, Repr

/-- R156: the store state. -/
def Store.state (st : Store) : StoreState :=
  match st.work with
  | .idle => .idle
  | .saving _ => .saving
  | .loading _ => .loading

/-! ## Event unit (chapter 10) and pins -/

/-- R169 to R171. -/
structure Events where
  flags : BitVec 14
  mask : BitVec 14
  promotedKey : Option Key
  healedKey : Option Key
  recordFaultKey : Option Key
  deriving DecidableEq, Repr

/-- 00 "the plain pins": SVC_EN as last seen, AUTOLOAD as read at the last hard reset, and the straps A2..A0. -/
structure Pins where
  svcEn : Bool
  autoload : Bool
  straps : BitVec 3
  deriving DecidableEq, Repr

/-! ## Outputs (log entry 3) -/

/-- R43, R57: what the walker sends on the drive link; `zeros n` is n codes of 0. -/
inductive DriveItem where
  | startMark
  | codes (red green blue : Nat)
  | zeros (count : Nat)
  | latch (frame : FrameNo) (report : Bool)
  deriving DecidableEq, Repr

/-- R157: a transaction begun on the store link: the bytes the store sends, then how many are read back. -/
structure FlashTransaction where
  sent : List Byte
  readBack : Nat
  deriving DecidableEq, Repr

/-- R175 to R180: what the port does on the bus. -/
inductive PortItem where
  /-- The address byte is acknowledged or not. -/
  | address (acknowledged : Bool)
  /-- The first data byte of a write is acknowledged or not. -/
  | firstByte (acknowledged : Bool)
  /-- At the end of a write: how many of its data bytes were acknowledged. -/
  | acknowledged (count : Nat)
  /-- The bytes sent in a read. -/
  | sent (bytes : List Byte)
  deriving DecidableEq, Repr

/-- What the last command put on the drive link, the store link and the service port, in order. -/
structure Outputs where
  drive : List DriveItem
  flash : List FlashTransaction
  port : List PortItem
  deriving DecidableEq, Repr

/-- The whole machine, and the queue of commands waiting (log entry 1). -/
structure State where
  table : Table
  arbiter : Arbiter
  walker : Walker
  monitor : Monitor
  engine : Engine
  access : Access
  store : Store
  events : Events
  pins : Pins
  out : Outputs
  pending : List Instr
  deriving DecidableEq, Repr

/-! ## Named updates, one per block -/

def State.withTable (s : State) (x : Table) : State := { s with table := x }
def State.withArbiter (s : State) (x : Arbiter) : State := { s with arbiter := x }
def State.withWalker (s : State) (x : Walker) : State := { s with walker := x }
def State.withMonitor (s : State) (x : Monitor) : State := { s with monitor := x }
def State.withEngine (s : State) (x : Engine) : State := { s with engine := x }
def State.withAccess (s : State) (x : Access) : State := { s with access := x }
def State.withStore (s : State) (x : Store) : State := { s with store := x }
def State.withEvents (s : State) (x : Events) : State := { s with events := x }
def State.withPins (s : State) (x : Pins) : State := { s with pins := x }
def State.withOut (s : State) (x : Outputs) : State := { s with out := x }
def State.withPending (s : State) (x : List Instr) : State := { s with pending := x }

/-! ## Reset -/

/-- R39: the table controller after a hard reset. -/
def Table.afterReset (autoload : Bool) : Table :=
  ⟨[], 0, if autoload then .loading else .ready, false, .default⟩

/-- R39: no request waiting, no operation in progress. -/
def Arbiter.empty : Arbiter := ⟨none, none, none, none, none, .operator⟩

/-- R61, with the blank send it starts. The latches, position and counts of a frame mean nothing in IDLE (log entry 5). -/
def Walker.afterReset : Walker where
  state := .idle
  frameNumber := 0
  lastCompleted := none
  appliedCount := 0
  driveMax := Config.greatestDriveMax
  probeInterval := .every64
  latches := ⟨.default, Config.greatestDriveMax, .every64, false⟩
  position := ⟨0, 0⟩
  running := 0
  timer := .stopped
  blankSend := some .default
  levels := []
  arrived := 0
  held := false
  heldLevels := []
  heldExpiry := false
  ending := none

/-- R86 (report latches and positions: log entry 6). -/
def Monitor.afterReset (autoload : Bool) : Monitor where
  state := .idle
  enable := true
  debounce := Config.resetDebounce
  healProbes := Config.resetHealProbes
  inHand := none
  latchedDebounce := Config.resetDebounce
  latchedHealProbes := Config.resetHealProbes
  entryPosition := 0
  buffer := none
  suspects := []
  loadMark := autoload
  waiting := []
  checkPosition := 0
  healPosition := none

/-- R177. -/
def Engine.afterReset : Engine := ⟨none, none, .none⟩

/-- R155. -/
def Access.afterReset : Access := ⟨.operator, none, 0⟩

/-- R174. -/
def Events.afterReset : Events := ⟨0, BitVec.allOnes 14, none, none, none⟩

/-- R164 to R166: a load before its header is read. -/
def LoadWork.begun : LoadWork := ⟨none, 0, 0xFFFF#16, 0, none, none⟩

/-- R156, R167: with AUTOLOAD high the start-up load has begun without begin load and, the monitor having taken load start at once, the idle wait is under way (log entry 28). -/
def Store.afterReset (autoload : Bool) : Store :=
  ⟨if autoload then .loading .begun else .idle, .none,
    if autoload then .polling Config.idleAllowance else .none, none⟩

/-- R61 starts a blank send, and R167 with AUTOLOAD high polls the flash. -/
def Outputs.afterReset (autoload : Bool) : Outputs :=
  ⟨[.startMark], if autoload then [⟨[Config.readStatusCode], 1⟩] else [], []⟩

/-- R39, R61, R86, R155, R156, R174, R177: the machine after a hard reset in which AUTOLOAD was read at a level; the pins and the queue are the board's and the sender's (log entry 24). -/
def State.afterHardReset (autoload : Bool) (pins : Pins) (pending : List Instr) : State where
  table := .afterReset autoload
  arbiter := .empty
  walker := .afterReset
  monitor := .afterReset autoload
  engine := .afterReset
  access := .afterReset
  store := .afterReset autoload
  events := .afterReset
  pins := { pins with autoload := autoload }
  out := .afterReset autoload
  pending := pending

/-- The machine right after a hard reset with AUTOLOAD low, SVC_EN deasserted and the straps 0 (log entry 4). -/
def State.reset : State := .afterHardReset false ⟨false, false, 0⟩ []

end Sys2Proof.Machine
end

