-- ==== Sys2Proof/Machine/Flags.lean ====
section
/-! DEFINITION. The event flags, detail keys and ATTN_N (chapter 10). -/
namespace Sys2Proof.Machine

/-- R169: the fourteen events, in the event order. -/
inductive Event where
  | promoted | recordFault | healed | suspectFull | tableFull | reportOverrun | violation
  | storeDone | storeFault | imageBad | answerLost | videoLost | shortFrame | serviceClosed
  deriving DecidableEq, Repr

/-- R185 "Event order": the bit of a flag. -/
def Event.bit : Event → Nat
  | .promoted => 0
  | .recordFault => 1
  | .healed => 2
  | .suspectFull => 3
  | .tableFull => 4
  | .reportOverrun => 5
  | .violation => 6
  | .storeDone => 7
  | .storeFault => 8
  | .imageBad => 9
  | .answerLost => 10
  | .videoLost => 11
  | .shortFrame => 12
  | .serviceClosed => 13

/-- R169: whether a flag is set. -/
def Events.has (ev : Events) (e : Event) : Bool := ev.flags.getLsbD e.bit

/-- R169: a flag raised is set, whether it was set or not. -/
def Events.raise (ev : Events) (e : Event) : Events :=
  { ev with flags := ev.flags ||| (1#14 <<< e.bit) }

/-- R169: a block raises an event that carries no key. -/
def State.raise (s : State) (e : Event) : State := s.withEvents (s.events.raise e)

/-- R170: PROMOTED carries the record's key, which replaces the detail key in the same action. -/
def State.raisePromoted (s : State) (k : Key) : State :=
  s.withEvents { s.events.raise .promoted with promotedKey := some k }

/-- R170. -/
def State.raiseHealed (s : State) (k : Key) : State :=
  s.withEvents { s.events.raise .healed with healedKey := some k }

/-- R170. -/
def State.raiseRecordFault (s : State) (k : Key) : State :=
  s.withEvents { s.events.raise .recordFault with recordFaultKey := some k }

/-- R171: any flag pending, whatever the mask. -/
def Events.anyPending (ev : Events) : Bool := ev.flags != 0

/-- R171: ATTN_N is driven low exactly while an enabled flag is set. -/
def State.attnLow (s : State) : Bool := s.events.flags &&& s.events.mask != 0

/-- R172: the flags of the copy cleared and the detail keys absent. -/
def Events.cleared (ev : Events) : Events :=
  { ev with flags := 0, promotedKey := none, healedKey := none, recordFaultKey := none }

/-- R173: the fourteen mask bits of a word, if it has no bit above them. -/
def maskOfWord (w : Word16) : Option (BitVec 14) :=
  if w.toNat < 2 ^ 14 then some (w.setWidth 14) else none

end Sys2Proof.Machine
end

