-- ==== Sys2Proof/Machine/Ops.lean ====
section
/-! DEFINITION. The shared operations: keys and the keyed list, the arbiter, outputs, answers and violations. A block has no exception entry; a refusal is an answer and an error is an event flag. -/
namespace Sys2Proof.Machine

/-! ## Keys (R1) and colours -/

/-- R1: a comes before b in raster order; b is then ahead of a. -/
abbrev Key.before (a b : Key) : Prop := a.row < b.row ∨ (a.row = b.row ∧ a.col < b.col)

/-- R2: row and column below the counts. -/
abbrev Geometry.contains (g : Geometry) (k : Key) : Prop := k.row < g.rows ∧ k.col < g.cols

/-- R1: the key a request or report carries as two bytes. -/
def keyOf (row col : Byte) : Key := ⟨row.toNat, col.toNat⟩

/-- R48 step 6: the key after k within a geometry. -/
def Geometry.after (g : Geometry) (k : Key) : Key :=
  if k.col + 1 < g.cols then ⟨k.row, k.col + 1⟩ else ⟨k.row + 1, 0⟩

/-- R52: the last emitter of a geometry. -/
def Geometry.last (g : Geometry) : Key := ⟨g.rows - 1, g.cols - 1⟩

/-- The channels of a geometry, three per emitter (R44, R57). -/
def Geometry.channels (g : Geometry) : Nat := 3 * (g.rows * g.cols)

/-- 00 "Colours and channels": red, green, blue. -/
def colours : List Colour := [.red, .green, .blue]

/-- R7: the action of one colour. -/
def Persistent.action (p : Persistent) : Colour → Action
  | .red => p.red
  | .green => p.green
  | .blue => p.blue

/-- One colour's action replaced. -/
def Persistent.withAction (p : Persistent) (c : Colour) (a : Action) : Persistent :=
  match c with
  | .red => { p with red := a }
  | .green => { p with green := a }
  | .blue => { p with blue := a }

/-- R24, R116: all three auto markers cleared. -/
def Persistent.clearMarkers (p : Persistent) : Persistent :=
  { p with red := { p.red with auto := false }, green := { p.green with auto := false },
           blue := { p.blue with auto := false } }

/-! ## The keyed, ordered list of records (R17) -/

/-- R17: the record for a key. -/
def findKey (k : Key) (rs : List Record) : Option Record := rs.find? (fun r => r.pers.key = k)

/-- R21: the first record at or after a key. -/
def firstFrom (k : Key) (rs : List Record) : Option Record :=
  rs.find? (fun r => ¬ r.pers.key.before k)

/-- R38: a record lies ahead of a position, which is absent before the first step. -/
def aheadOf (position : Option Key) (k : Key) : Bool :=
  match position with
  | none => true
  | some p => decide (p.before k)

/-- R17: a record takes its place after every smaller key and before every greater one. -/
def insertSorted (r : Record) : List Record → List Record
  | [] => [r]
  | x :: xs => if x.pers.key.before r.pers.key then x :: insertSorted r xs else r :: x :: xs

/-- R17: the record for a key leaves. -/
def removeKey (k : Key) (rs : List Record) : List Record := rs.filter (fun r => r.pers.key ≠ k)

/-- The record for r's key is replaced by r. -/
def putRecord (r : Record) (rs : List Record) : List Record :=
  rs.map (fun x => if x.pers.key = r.pers.key then r else x)

/-! ## Outputs (log entry 3) -/

/-- What a command puts out starts from nothing. -/
def State.quiet (s : State) : State := s.withOut ⟨[], [], []⟩

/-- The walker sends items on the drive link (R43). -/
def State.drive (s : State) (items : List DriveItem) : State :=
  s.withOut { s.out with drive := s.out.drive ++ items }

/-- R157: the commands of the store link. -/
inductive FlashCommand where
  | readStatus
  | writeEnable
  | sectorErase (address : Nat)
  | pageProgram (address : Nat) (bytes : List Byte)
  | readData (address length : Nat)
  deriving DecidableEq, Repr

/-- R157, 00 "Byte order": a three-byte address, the most significant byte first. -/
def flashAddress (a : Nat) : List Byte :=
  [BitVec.ofNat 8 (a / 2 ^ 16), BitVec.ofNat 8 (a / 2 ^ 8), BitVec.ofNat 8 a]

/-- R157: the code of a command and what follows it. -/
def FlashCommand.transaction : FlashCommand → FlashTransaction
  | .readStatus => ⟨[Config.readStatusCode], 1⟩
  | .writeEnable => ⟨[Config.writeEnableCode], 0⟩
  | .sectorErase a => ⟨Config.sectorEraseCode :: flashAddress a, 0⟩
  | .pageProgram a bytes => ⟨Config.pageProgramCode :: (flashAddress a ++ bytes), 0⟩
  | .readData a n => ⟨Config.readDataCode :: flashAddress a, n⟩

/-- The image store begins a transaction on the store link (R157). -/
def State.flashSend (s : State) (c : FlashCommand) : State :=
  s.withOut { s.out with flash := s.out.flash ++ [c.transaction] }

/-- The port acts on the bus (R175). -/
def State.bus (s : State) (items : List PortItem) : State :=
  s.withOut { s.out with port := s.out.port ++ items }

/-! ## The walker's settings (R59, R60) -/

/-- R59, R60: DRIVE_MAX and PROBE_INTERVAL in force are written together. -/
def State.setDrive (s : State) (driveMax : Nat) (interval : ProbeInterval) : State :=
  s.withWalker { s.walker with driveMax := driveMax, probeInterval := interval }

/-! ## The arbiter (R19, R20) -/

/-- Whether a client's request is waiting or in progress. -/
def Arbiter.asks (a : Arbiter) : Client → Bool
  | .walker => a.walker.isSome
  | .store => a.store.isSome
  | .monitor => a.monitor.isSome
  | .engine => a.engine.isSome

/-- R20: the client granted next among those waiting. -/
def Arbiter.nextClient (a : Arbiter) : Option Client :=
  if a.asks .walker then some .walker
  else if a.asks .store then some .store
  else if a.asks .monitor then some .monitor
  else if a.asks .engine then some .engine
  else none

/-- R20: a free store is granted to the next client, whose operation reads the access level now (R147). -/
def Arbiter.granted (a : Arbiter) (level : AccessLevel) : Arbiter :=
  match a.inProgress with
  | some _ => a
  | none =>
    match a.nextClient with
    | none => a
    | some c => { a with inProgress := some c, levelAtGrant := level }

def State.grantNext (s : State) : State := s.withArbiter (s.arbiter.granted s.access.level)

/-- R20: a request arrives; it is granted at once when the store is free and none other waits. -/
def State.askWalker (s : State) (r : WalkerReq) : State :=
  s.withArbiter ({ s.arbiter with walker := some r }.granted s.access.level)

def State.askStore (s : State) (r : StoreReq) : State :=
  s.withArbiter ({ s.arbiter with store := some r }.granted s.access.level)

def State.askMonitor (s : State) (r : MonitorReq) : State :=
  s.withArbiter ({ s.arbiter with monitor := some r }.granted s.access.level)

def State.askEngine (s : State) (r : EngineReq) : State :=
  s.withArbiter ({ s.arbiter with engine := some r }.granted s.access.level)

/-- The walker's operation in progress, if it is the walker's. -/
def Arbiter.walkerOp (a : Arbiter) : Option WalkerReq :=
  if a.inProgress = some .walker then a.walker else none

def Arbiter.storeOp (a : Arbiter) : Option StoreReq :=
  if a.inProgress = some .store then a.store else none

def Arbiter.monitorOp (a : Arbiter) : Option MonitorReq :=
  if a.inProgress = some .monitor then a.monitor else none

def Arbiter.engineOp (a : Arbiter) : Option EngineReq :=
  if a.inProgress = some .engine then a.engine else none

/-- A client's operation is complete: its request is gone and the store is free. -/
def Arbiter.released (a : Arbiter) : Client → Arbiter
  | .walker => { a with walker := none, inProgress := none }
  | .store => { a with store := none, inProgress := none }
  | .monitor => { a with monitor := none, inProgress := none }
  | .engine => { a with engine := none, inProgress := none }

/-- R20: the operation in progress, a client's, completes with its changes to the table; the next is granted among the requests then waiting, before the client acts on its outcome. -/
def State.complete (s : State) (c : Client) (t : Table) : State :=
  (s.withTable t).withArbiter ((s.arbiter.released c).granted s.access.level)

/-! ## Answers (R177) -/

/-- R177: the command is finished. At the unit address its answer makes the buffer READY; at the group address no answer is written (R180). Either way the engine is IDLE. -/
def State.respond (s : State) (via : Via) (code : ResultCode) (data : List Byte) : State :=
  s.withEngine { s.engine with
    hand := none
    answer := match via with
      | .unit => some ⟨code, data⟩
      | .group => s.engine.answer }

/-- The command in hand is finished. -/
def State.respondHand (s : State) (code : ResultCode) (data : List Byte) : State :=
  match s.engine.hand with
  | none => s
  | some job => s.respond job.via code data

/-- R177: the engine enters EXECUTING with a command in hand. -/
def State.takeInHand (s : State) (code : Byte) (via : Via) : State :=
  s.withEngine { s.engine with hand := some ⟨code, via, none⟩ }

/-! ## Violations (R153) -/

/-- R153: a refused protected operation is recorded as one action. -/
def State.reportViolation (s : State) (v : Violation) : State :=
  match s.access.violation with
  | none => (s.withAccess { s.access with violation := some v }).raise .violation
  | some _ =>
    s.withAccess { s.access with furtherCount := min (s.access.furtherCount + 1) 255 }

end Sys2Proof.Machine
end

