-- ==== Sys2Proof/Machine/Operands.lean ====
section
/-! DEFINITION. The operand forms: the fields of records, selections, sweeps, settings and headers as their bytes give them, and the tests of R12, R13 and R128 on them. -/
namespace Sys2Proof.Machine

/-! ## Record fields (R12, R13, R185) -/

/-- R185: 0x01 FACTORY, 0x02 SERVICE, 0x03 DETECTED. -/
def originOf (b : Byte) : Option Origin :=
  match b.toNat with
  | 1 => some .factory
  | 2 => some .service
  | 3 => some .detected
  | _ => none

/-- R185: 0x00 ACTIVE, 0x01 DORMANT. -/
def statusOf (b : Byte) : Option Status :=
  match b.toNat with
  | 0 => some .active
  | 1 => some .dormant
  | _ => none

/-- R185: bits 6 to 0 of the mode byte. -/
def modeOf (n : Nat) : Option Mode :=
  match n with
  | 0 => some .pass
  | 1 => some .trim
  | 2 => some .mute
  | 3 => some .hold
  | _ => none

/-- R12 condition 5. -/
def Mode.admits (m : Mode) (value : Nat) : Bool :=
  match m with
  | .pass | .mute => value == 0
  | .trim => decide (value ≤ Config.maxGain)
  | .hold => decide (value ≤ Config.greatestDriveMax)

/-- R12 conditions 3 and 5: a known mode with a value in range; bit 7 of the mode byte is the auto marker (R185). -/
def actionOf (a : ActionImage) : Option Action :=
  match modeOf (a.mode.toNat % 128) with
  | none => none
  | some m =>
    if m.admits a.value.toNat then some ⟨m, a.value.toNat, decide (128 ≤ a.mode.toNat)⟩ else none

/-- R12 conditions 3 to 5: an action the tile processor may supply. -/
def suppliedAction (a : ActionImage) : Option Action :=
  (actionOf a).filter (fun x => !x.auto)

/-- R12 condition 1: an origin the tile processor may supply. -/
def suppliedOrigin (b : Byte) : Option Origin :=
  (originOf b).filter (fun o => o ≠ .detected)

/-- A record image's fields, each read by its own test. -/
def persistentOf (origin : Byte → Option Origin) (action : ActionImage → Option Action)
    (i : RecordImage) : Option Persistent := do
  let o ← origin i.origin
  let st ← statusOf i.status
  let r ← action i.red
  let g ← action i.green
  let b ← action i.blue
  return ⟨keyOf i.row i.col, o, st, r, g, b, i.tag⟩

/-- R12: the record that INSERT supplies, if it is valid. -/
def suppliedRecord (i : RecordImage) : Option Persistent :=
  persistentOf suppliedOrigin suppliedAction i

/-- R8: the auto-marker laws of a record. -/
def Persistent.markersLawful (p : Persistent) : Bool :=
  (colours.all fun c =>
    !(p.action c).auto || ((p.action c).mode == .mute && p.origin == .detected)) &&
  (p.origin != .detected || colours.any fun c => (p.action c).auto)

/-- R13: the record of an image slot, if it is valid. -/
def imageRecord (i : RecordImage) : Option Persistent :=
  (persistentOf originOf actionOf i).filter Persistent.markersLawful

/-! ## AMEND (R113, R116, R117) -/

/-- R113: the selected fields with their new values. -/
structure AmendFields where
  status : Option Status
  red : Option Action
  green : Option Action
  blue : Option Action
  tag : Option Word16
  origin : Option Origin
  deriving DecidableEq, Repr

/-- R113: a field that is not selected is ignored; a selected one must pass its test. -/
def selectedField {α : Type} (select : Byte) (bit : Nat) (value : Option α) : Option (Option α) :=
  if select.getLsbD bit then value.map some else some none

/-- R113: the field-select set is valid and every selected field passes R12. -/
def amendFields (select : Byte) (i : RecordImage) : Option AmendFields :=
  if select.toNat = 0 ∨ 64 ≤ select.toNat then none
  else do
    let st ← selectedField select 0 (statusOf i.status)
    let r ← selectedField select 1 (suppliedAction i.red)
    let g ← selectedField select 2 (suppliedAction i.green)
    let b ← selectedField select 3 (suppliedAction i.blue)
    let t ← selectedField select 4 (some i.tag)
    let o ← selectedField select 5 (suppliedOrigin i.origin)
    return ⟨st, r, g, b, t, o⟩

/-- R116: the AMEND selects a colour action. -/
def AmendFields.namesColour (a : AmendFields) : Bool :=
  a.red.isSome || a.green.isSome || a.blue.isSome

/-- R115: the selected fields written, before adoption. -/
def AmendFields.write (a : AmendFields) (p : Persistent) : Persistent where
  key := p.key
  origin := a.origin.getD p.origin
  status := a.status.getD p.status
  red := a.red.getD p.red
  green := a.green.getD p.green
  blue := a.blue.getD p.blue
  tag := a.tag.getD p.tag

/-- R115 to R117: the selected fields written, with adoption and the clearing of markers. -/
def AmendFields.apply (a : AmendFields) (p : Persistent) : Persistent :=
  if p.origin = .detected ∧ (a.namesColour ∨ a.origin.isSome) then
    { (a.write p).clearMarkers with origin := a.origin.getD .service }
  else a.write p

/-! ## SWEEP (R128, R133) -/

/-- R185: the sweep action codes. -/
def sweepActionOf (b : Byte) : Option SweepAction :=
  match b.toNat with
  | 0 => some .activate
  | 1 => some .makeDormant
  | 2 => some .retire
  | 3 => some .clearFaults
  | 4 => some .retag
  | _ => none

/-- R129: four of the five actions change persistent fields. -/
def SweepAction.persistent : SweepAction → Bool
  | .clearFaults => false
  | .activate | .makeDormant | .retire | .retag => true

/-- R130: the request's action is a persistent one (an action code outside the five is not: log entry 15). -/
def isPersistentSweep (p : SweepParams) : Bool :=
  ((sweepActionOf p.action).map SweepAction.persistent).getD false

/-- R128: the fields of a sweep, if each is valid. -/
def sweepFields (p : SweepParams) : Option (SweepFilter × SweepAction × Nat) :=
  match sweepActionOf p.action with
  | none => none
  | some action =>
    if p.originSet.toNat = 0 ∨ 8 ≤ p.originSet.toNat ∨ p.statusSet.toNat = 0 ∨ 4 ≤ p.statusSet.toNat
        ∨ p.lastRow.toNat < p.firstRow.toNat ∨ 1 < p.tagPresence.toNat
        ∨ p.limit.toNat = 0 ∨ Config.tableCapacity < p.limit.toNat then none
    else
      some (⟨p.originSet.getLsbD 0, p.originSet.getLsbD 1, p.originSet.getLsbD 2,
        p.statusSet.getLsbD 0, p.statusSet.getLsbD 1, p.firstRow.toNat, p.lastRow.toNat,
        if p.tagPresence.toNat = 1 then some p.tagMatch else none⟩, action, p.limit.toNat)

/-- R133 condition 1. -/
def SweepFilter.takesOrigin (f : SweepFilter) : Origin → Bool
  | .factory => f.factory
  | .service => f.service
  | .detected => f.detected

/-- R133 condition 2. -/
def SweepFilter.takesStatus (f : SweepFilter) : Status → Bool
  | .active => f.active
  | .dormant => f.dormant

/-- R133: a record matches the filter. -/
def SweepFilter.accepts (f : SweepFilter) (p : Persistent) : Bool :=
  f.takesOrigin p.origin && f.takesStatus p.status &&
  (decide (f.firstRow ≤ p.key.row) && decide (p.key.row ≤ f.lastRow)) &&
  (match f.tag with
    | none => true
    | some t => t == p.tag)

/-! ## Settings (R59, R80, R164) -/

/-- R59: the interval codes. -/
def ProbeInterval.ofCode (n : Nat) : Option ProbeInterval :=
  match n with
  | 0 => some .off
  | 1 => some .every16
  | 2 => some .every32
  | 3 => some .every64
  | 4 => some .every128
  | 5 => some .every256
  | _ => none

def ProbeInterval.code : ProbeInterval → Nat
  | .off => 0
  | .every16 => 1
  | .every32 => 2
  | .every64 => 3
  | .every128 => 4
  | .every256 => 5

/-- R42: PROBE_INTERVAL in frames. -/
def ProbeInterval.frames : ProbeInterval → Nat
  | .off => 0
  | .every16 => 16
  | .every32 => 32
  | .every64 => 64
  | .every128 => 128
  | .every256 => 256

/-- R59, R164: DRIVE_MAX is 255 to 4095. -/
def driveMaxValid (n : Nat) : Bool :=
  decide (Config.leastDriveMax ≤ n) && decide (n ≤ Config.greatestDriveMax)

/-- R80, R164: the three monitor settings are in range. -/
def monitorSettingsValid (debounce healProbes enable : Nat) : Bool :=
  decide (Config.leastDebounce ≤ debounce) && decide (debounce ≤ Config.greatestDebounce) &&
  (decide (Config.leastHealProbes ≤ healProbes) && decide (healProbes ≤ Config.greatestHealProbes)) &&
  decide (enable ≤ 1)

end Sys2Proof.Machine
end

