-- ==== Sys2Proof/Machine/Wire.lean ====
section
/-! DEFINITION. The byte layouts of R185, the CRC and the image header of R158. -/
namespace Sys2Proof.Machine

/-- The low byte of a number. -/
def byte (n : Nat) : Byte := BitVec.ofNat 8 n

/-- 00 "Byte order": two bytes, the most significant first. -/
def be16 (n : Nat) : List Byte := [byte (n / 256), byte n]

/-- Four bytes, the most significant first. -/
def be32 (w : Word32) : List Byte :=
  [byte (w.toNat / 2 ^ 24), byte (w.toNat / 2 ^ 16), byte (w.toNat / 2 ^ 8), byte w.toNat]

/-- 00 "Optional fields": 0x00 for absent, 0x01 for present. -/
def presence (b : Bool) : Byte := if b then 1 else 0

/-- A presence byte, then row and column, zero when absent. -/
def keyBytes : Option Key → List Byte
  | none => [0, 0, 0]
  | some k => [1, byte k.row, byte k.col]

/-! ## Codes -/

def Origin.code : Origin → Byte
  | .factory => 1
  | .service => 2
  | .detected => 3

def Status.code : Status → Byte
  | .active => 0
  | .dormant => 1

def Mode.code : Mode → Nat
  | .pass => 0
  | .trim => 1
  | .mute => 2
  | .hold => 3

def colourCode : Colour → Nat
  | .red => 0
  | .green => 1
  | .blue => 2

def kindCode : FaultKind → Nat
  | .openCircuit => 0
  | .shortCircuit => 1

def AccessLevel.code : AccessLevel → Byte
  | .operator => 0
  | .service => 1

def TableState.code : TableState → Byte
  | .ready => 0
  | .loading => 1

def WalkerState.code : WalkerState → Byte
  | .idle => 0
  | .walking => 1
  | .waiting => 2
  | .blank => 3

def MonitorState.code : MonitorState → Byte
  | .off => 0
  | .idle => 1
  | .processing => 2
  | .healing => 3

def StoreState.code : StoreState → Byte
  | .idle => 0
  | .saving => 1
  | .loading => 2

def StoreResult.code : StoreResult → Byte
  | .none => 0
  | .saved => 1
  | .saveFault => 2
  | .loaded => 3
  | .imageBad => 4

/-- R184. -/
def ResultCode.code : ResultCode → Byte
  | .ok => 0x00
  | .started => 0x01
  | .aborted => 0x02
  | .endOfTable => 0x03
  | .malformed => 0x90
  | .unknown => 0x91
  | .badField => 0x92
  | .outOfRange => 0x93
  | .exists_ => 0x94
  | .noRecord => 0x95
  | .tableFull => 0x96
  | .protected_ => 0x97
  | .notPermitted => 0x98
  | .storeBusy => 0x99
  | .notEmpty => 0x9A

/-! ## Layouts -/

/-- R185: a colour's mode byte and value. -/
def actionBytes (a : Action) : List Byte :=
  byte (a.mode.code + if a.auto then 128 else 0) :: be16 a.value

/-- R185: the record image, 15 bytes. -/
def recordBytes (p : Persistent) : List Byte :=
  [byte p.key.row, byte p.key.col, p.origin.code, p.status.code] ++ actionBytes p.red
    ++ actionBytes p.green ++ actionBytes p.blue ++ be16 p.tag.toNat

/-- R185: the volatile block, 13 bytes. -/
def volatileBytes (v : Volatile) : List Byte :=
  byte v.faultCount ::
    (match v.lastFault with
      | none => [0, 0] ++ be32 0
      | some f => [1, byte (16 * colourCode f.colour + kindCode f.kind)] ++ be32 f.frame) ++
    (match v.probeFrame with
      | none => 0 :: be32 0
      | some f => 1 :: be32 f) ++
    [byte v.healCount]

/-- R106: the generation number, then the record image and the volatile block. -/
def recordAnswer (generation : Word32) (r : Record) : List Byte :=
  be32 generation ++ recordBytes r.pers ++ volatileBytes r.vol

/-- R185: a suspect entry, 5 bytes. -/
def suspectBytes (e : Suspect) : List Byte :=
  [byte e.key.row, byte e.key.col, byte (colourCode e.colour), byte e.count,
    byte (kindCode e.kind + match e.state with
      | .counting => 0
      | .held => 2)]

/-- R82: the number of entries, then the entries, oldest first. -/
def suspectsAnswer (l : List Suspect) : List Byte := byte l.length :: l.flatMap suspectBytes

/-- R185: rows less one and columns less one. -/
def geometryBytes (g : Geometry) : List Byte := [byte (g.rows - 1), byte (g.cols - 1)]

/-- R181: the capability block and the geometry in force. -/
def describeAnswer (g : Geometry) : List Byte :=
  [1] ++ be16 Config.tableCapacity ++
    [byte Config.suspectCapacity, byte Config.reportEntries, byte (Config.maxRows - 1),
      byte (Config.maxCols - 1)] ++
    be16 Config.maxGain ++ be16 Config.leastDriveMax ++ be16 Config.greatestDriveMax ++
    [byte Config.leastDebounce, byte Config.greatestDebounce, byte Config.leastHealProbes,
      byte Config.greatestHealProbes, 6] ++
    ([ProbeInterval.off, .every16, .every32, .every64, .every128, .every256].flatMap
      fun i => be16 i.frames) ++
    [byte Config.answerMaximum] ++ geometryBytes g

/-- R182, R185: the STATUS answer, 25 bytes. -/
def statusAnswer (s : State) : List Byte :=
  be32 s.table.generation ++ be16 s.table.records.length ++ [s.table.state.code] ++
    [s.walker.state.code] ++ be32 s.walker.frameNumber ++
    (match s.walker.lastCompleted with
      | none => 0 :: be32 0
      | some f => 1 :: be32 f) ++
    be16 s.walker.appliedCount ++
    [s.monitor.state.code, byte s.monitor.suspects.length, s.store.state.code,
      s.store.lastResult.code, s.access.level.code, presence s.events.anyPending]

/-- R172, R185: the event word and the three detail keys, 11 bytes. -/
def eventsAnswer (ev : Events) : List Byte :=
  be16 ev.flags.toNat ++ keyBytes ev.promotedKey ++ keyBytes ev.healedKey
    ++ keyBytes ev.recordFaultKey

/-- R154, R185: the violation record, all zero when absent, and the further-count. -/
def violationAnswer (a : Access) : List Byte :=
  (match a.violation with
    | none => [0, 0, 0, 0, 0, 0, 0]
    | some v => [1, v.code] ++ keyBytes v.key ++ [v.level.code, v.refusal.code]) ++
    [byte a.furtherCount]

/-- R185: the three monitor settings. -/
def monitorBytes (debounce healProbes : Nat) (enable : Bool) : List Byte :=
  [byte debounce, byte healProbes, presence enable]

/-- R135: why a sweep stopped. -/
inductive StopReason where
  | endOfRange | limit | abort
  deriving DecidableEq, Repr

def StopReason.code : StopReason → Byte
  | .endOfRange => 0
  | .limit => 1
  | .abort => 2

/-- R137, R185: the sweep answer, 14 bytes. -/
def sweepAnswer (c : SweepContext) (why : StopReason) : List Byte :=
  be32 c.lastGeneration ++ [why.code] ++ be16 c.examined ++ be16 c.changed ++ be16 c.skipped
    ++ keyBytes c.position

/-- R178: the bytes of an answer. -/
def Answer.bytes (a : Answer) : List Byte := [a.code.code, byte a.data.length] ++ a.data

/-- R178: the bytes a read sends: the answer, then 0xFF. -/
def answerSent (a : Answer) (count : Nat) : List Byte :=
  (a.bytes ++ List.replicate count 0xFF).take count

/-! ## The image (R158) -/

/-- R158: one bit of the CRC, generator 0x1021. -/
def crcBit (c : Word16) : Word16 := if c.getLsbD 15 then (c <<< 1) ^^^ 0x1021#16 else c <<< 1

/-- R158: one byte, most significant bit first. -/
def crcByte (c : Word16) (b : Byte) : Word16 :=
  crcBit (crcBit (crcBit (crcBit (crcBit (crcBit (crcBit (crcBit (c ^^^ (b.setWidth 16 <<< 8)))))))))

/-- R158: the CRC carried on over more bytes. -/
def crcOver (c : Word16) (bytes : List Byte) : Word16 := bytes.foldl crcByte c

/-- R158: started at 0xFFFF. -/
def crcStart : Word16 := 0xFFFF#16

/-- R158, R185: header bytes 0 to 29. -/
def headerFields (h : Header) : List Byte :=
  be16 Config.formatWord.toNat ++ be16 h.count ++ be32 h.generation ++ geometryBytes h.geometry ++
    be16 h.driveMax ++
    [byte h.probeInterval.code, byte h.debounce, byte h.healProbes, presence h.enable] ++
    List.replicate 14 0

/-- R161: the 32 header bytes with the CRC in bytes 30 and 31. -/
def headerBytes (h : Header) (crc : Word16) : List Byte := headerFields h ++ be16 crc.toNat

/-- R158: a record slot, the record image and a byte 0x00. -/
def slotBytes (p : Persistent) : List Byte := recordBytes p ++ [0]

/-- R164 step 5: the header read from the flash, if it passes its checks. Every failed check has the one outcome of R166, so their order does not show. -/
def headerOfBytes : List Byte → Option Header
  | [f1, f0, c1, c0, g3, g2, g1, g0, rows, cols, d1, d0, interval, debounce, healProbes, enable,
      _, _, _, _, _, _, _, _, _, _, _, _, _, _, _, _] =>
    if word16 f1 f0 ≠ Config.formatWord ∨ Config.tableCapacity < (word16 c1 c0).toNat
        ∨ 127 < rows.toNat ∨ driveMaxValid (word16 d1 d0).toNat = false
        ∨ monitorSettingsValid debounce.toNat healProbes.toNat enable.toNat = false then none
    else
      (ProbeInterval.ofCode interval.toNat).map fun i =>
        ⟨(word16 c1 c0).toNat, g3 ++ g2 ++ g1 ++ g0, ⟨rows.toNat + 1, cols.toNat + 1⟩,
          (word16 d1 d0).toNat, i, debounce.toNat, healProbes.toNat, enable.toNat == 1⟩
  | _ => none

/-- R165 checks 1 and 2: the record of a slot, if its pad byte is 0x00 and it meets R13. -/
def slotRecord (bytes : List Byte) : Option Persistent :=
  if bytes.getD 15 0xFF = 0 then (recordImageOfBytes (bytes.take 15)).bind imageRecord else none

/-- R165: bytes 30 and 31 of the header. -/
def storedCrc (bytes : List Byte) : Word16 := word16 (bytes.getD 30 0) (bytes.getD 31 0)

end Sys2Proof.Machine
end

