-- ==== Sys2Proof/Machine/Table.lean ====
section
/-! DEFINITION. The table operations (R21 to R32), each a function from the table at the grant to the table after it and the outcome. -/
namespace Sys2Proof.Machine

/-! ## Shared steps -/

/-- R33: the generation number advances by one, wrapping. -/
def Table.advance (t : Table) : Table := { t with generation := t.generation + 1 }

/-- The record for a key. -/
def Table.find (t : Table) (k : Key) : Option Record := findKey k t.records

/-- R17: the table is at its capacity. -/
def Table.full (t : Table) : Bool := decide (Config.tableCapacity ≤ t.records.length)

/-- R17: a record joins at its key's place with the volatile values of R10. -/
def Table.join (t : Table) (p : Persistent) : Table :=
  { t with records := insertSorted ⟨p, .entry⟩ t.records }

/-- R17: the record for a key leaves. -/
def Table.leave (t : Table) (k : Key) : Table := { t with records := removeKey k t.records }

/-- A record's contents change, its key staying. -/
def Table.put (t : Table) (r : Record) : Table := { t with records := putRecord r t.records }

/-! ## Finds (R21) and the status read (R22) -/

/-- R21: a find by key for the walker returns none while the table is LOADING. -/
def Table.walkerFind (t : Table) (k : Key) : Option Record :=
  match t.state with
  | .loading => none
  | .ready => t.find k

/-- R21: the outcome of a find for the fault monitor. -/
inductive FindOutcome where
  | loading
  | none
  | found (r : Record)
  deriving DecidableEq, Repr

/-- R21: a find by key for the fault monitor. -/
def Table.monitorFind (t : Table) (k : Key) : FindOutcome :=
  match t.state with
  | .loading => .loading
  | .ready =>
    match t.find k with
    | none => .none
    | some r => .found r

/-- R106: the outcome of a table command's operation. -/
inductive EditOutcome where
  | refused (code : ResultCode)
  | done
  | doneWith (r : Record)
  deriving DecidableEq, Repr

/-- R121: the checks of LOOKUP, in their order. -/
def Table.lookup (t : Table) (row col : Byte) : EditOutcome :=
  if t.state = .loading then .refused .storeBusy
  else if ¬ t.geometry.contains (keyOf row col) then .refused .outOfRange
  else
    match t.find (keyOf row col) with
    | none => .refused .noRecord
    | some r => .doneWith r

/-- R123, R124: the checks of NEXT, and the first record at or after its key; `done` is END. -/
def Table.next (t : Table) (row col : Byte) : EditOutcome :=
  if t.state = .loading then .refused .storeBusy
  else if 127 < row.toNat then .refused .outOfRange
  else
    match firstFrom (keyOf row col) t.records with
    | none => .done
    | some r => .doneWith r

/-! ## Edits (R110, R114, R119) -/

/-- R108: the table is LOADING or the save hold is set. -/
def Table.busy (t : Table) : Bool := t.state == .loading || t.saveHold

/-- R110, R111: the checks of INSERT, in their order, and the insert. -/
def Table.insert (t : Table) (level : AccessLevel) (i : RecordImage) : Table × EditOutcome :=
  if t.busy then (t, .refused .storeBusy)
  else
    match suppliedRecord i with
    | none => (t, .refused .badField)
    | some p =>
      if ¬ t.geometry.contains p.key then (t, .refused .outOfRange)
      else if p.origin = .factory ∧ level = .operator then (t, .refused .protected_)
      else if (t.find p.key).isSome then (t, .refused .exists_)
      else if t.full then (t, .refused .tableFull)
      else ((t.join p).advance, .done)

/-- R114, R115: the checks of AMEND, in their order, and the amend (R24). -/
def Table.amend (t : Table) (level : AccessLevel) (select : Byte) (i : RecordImage) :
    Table × EditOutcome :=
  if t.busy then (t, .refused .storeBusy)
  else
    match amendFields select i with
    | none => (t, .refused .badField)
    | some a =>
      if ¬ t.geometry.contains (keyOf i.row i.col) then (t, .refused .outOfRange)
      else
        match t.find (keyOf i.row i.col) with
        | none => (t, .refused .noRecord)
        | some r =>
          if level = .operator ∧ (r.pers.origin = .factory ∨ a.origin = some .factory) then
            (t, .refused .protected_)
          else if a.apply r.pers = r.pers then (t, .doneWith r)
          else ((t.put ⟨a.apply r.pers, r.vol⟩).advance, .doneWith ⟨a.apply r.pers, r.vol⟩)

/-- R119: the checks of RETIRE, in their order, and the remove (R25). -/
def Table.remove (t : Table) (level : AccessLevel) (row col : Byte) : Table × EditOutcome :=
  if t.busy then (t, .refused .storeBusy)
  else if ¬ t.geometry.contains (keyOf row col) then (t, .refused .outOfRange)
  else
    match t.find (keyOf row col) with
    | none => (t, .refused .noRecord)
    | some r =>
      if r.pers.origin = .factory ∧ level = .operator then (t, .refused .protected_)
      else ((t.leave (keyOf row col)).advance, .doneWith r)

/-! ## Faults and probes (R26, R27) -/

/-- R26: the outcome of a fault update. -/
inductive UpdateOutcome where
  | loading | none | extended | extensionSkipped | updated | notDetected
  deriving DecidableEq, Repr

/-- R26 step 1: the volatile update. -/
def Record.countFault (r : Record) (c : Colour) (k : FaultKind) (f : FrameNo) : Record :=
  { r with vol := { r.vol with
      faultCount := min (r.vol.faultCount + 1) Config.greatestFaultCount
      lastFault := some ⟨c, k, f⟩ } }

/-- R8: the action of a colour the fault monitor darkened. -/
def Action.darkened : Action := ⟨.mute, 0, true⟩

/-- R7: PASS. -/
def Action.passed : Action := ⟨.pass, 0, false⟩

/-- R26 step 2: the extension. -/
def Record.extend (r : Record) (c : Colour) : Record :=
  { r with pers := r.pers.withAction c .darkened }

/-- R26 on a record present in the table. -/
def Table.countOn (t : Table) (r : Record) (c : Colour) (k : FaultKind) (f : FrameNo) :
    Table × UpdateOutcome :=
  let counted := r.countFault c k f
  if r.pers.origin ≠ .detected then (t.put counted, .notDetected)
  else if (r.pers.action c).mode = .mute then (t.put counted, .updated)
  else if t.saveHold then (t.put counted, .extensionSkipped)
  else ((t.put (counted.extend c)).advance, .extended)

/-- R26: a fault update. -/
def Table.faultUpdate (t : Table) (key : Key) (c : Colour) (k : FaultKind) (f : FrameNo) :
    Table × UpdateOutcome :=
  match t.state with
  | .loading => (t, .loading)
  | .ready =>
    match t.find key with
    | none => (t, .none)
    | some r => t.countOn r c k f

/-- R27: the record still qualifies for the stamp. -/
def Record.stampable (r : Record) (colours : List Colour) : Bool :=
  r.pers.status == .active &&
  colours.any fun c => (r.pers.action c).mode == .mute && (r.pers.action c).auto

/-- R27: a stamp of the probe frame, made or discarded. -/
def Table.stamp (t : Table) (key : Key) (f : FrameNo) (colours : List Colour) : Table :=
  match t.walkerFind key with
  | none => t
  | some r =>
    if r.stampable colours then t.put { r with vol := { r.vol with probeFrame := some f } } else t

/-! ## Promotions (R23, R75) -/

/-- R23: the outcome of a promotion insert. -/
inductive PromotionOutcome where
  | loading | outside | heldBySave | full | inserted
  | merged (u : UpdateOutcome)
  deriving DecidableEq, Repr

/-- R75: the record of a promotion. -/
def Persistent.promoted (key : Key) (c : Colour) : Persistent :=
  Persistent.withAction ⟨key, .detected, .active, .passed, .passed, .passed, 0⟩ c .darkened

/-- R23: a promotion insert, its checks in their order. -/
def Table.promote (t : Table) (key : Key) (c : Colour) (k : FaultKind) (f : FrameNo) :
    Table × PromotionOutcome :=
  match t.state with
  | .loading => (t, .loading)
  | .ready =>
    if ¬ t.geometry.contains key then (t, .outside)
    else
      match t.find key with
      | some r => ((t.countOn r c k f).1, .merged (t.countOn r c k f).2)
      | none =>
        if t.saveHold then (t, .heldBySave)
        else if t.full then (t, .full)
        else ((t.join (.promoted key c)).advance, .inserted)

/-! ## Steps through the table (R28, R29, R31) -/

/-- R132: the outcome of a sweep step. -/
inductive SweepOutcome where
  | endOfRange
  | notMatched (k : Key)
  | unchanged (k : Key)
  | changed (k : Key)
  | skipped (k : Key)
  deriving DecidableEq, Repr

/-- R129: the record a sweep action leaves; `none` when it removes the record. -/
def SweepAction.apply (a : SweepAction) (value : Word16) (r : Record) : Option Record :=
  match a with
  | .activate => some { r with pers := { r.pers with status := .active } }
  | .makeDormant => some { r with pers := { r.pers with status := .dormant } }
  | .retire => none
  | .clearFaults => some { r with vol := .entry }
  | .retag => some { r with pers := { r.pers with tag := value } }

/-- R132: the record a step examines. -/
def Table.sweepCandidate (t : Table) (position : Option Key) (filter : SweepFilter) :
    Option Record :=
  let candidate :=
    match position with
    | none => firstFrom ⟨filter.firstRow, 0⟩ t.records
    | some p => t.records.find? (fun r => aheadOf (some p) r.pers.key)
  candidate.filter fun r => r.pers.key.row ≤ filter.lastRow

/-- R28, R129, R133, R134: a sweep step. -/
def Table.sweepStep (t : Table) (level : AccessLevel) (position : Option Key)
    (filter : SweepFilter) (action : SweepAction) (value : Word16) : Table × SweepOutcome :=
  match t.sweepCandidate position filter with
  | none => (t, .endOfRange)
  | some r =>
    if !filter.accepts r.pers then (t, .notMatched r.pers.key)
    else if action.persistent = true ∧ r.pers.origin = .factory ∧ level = .operator then
      (t, .skipped r.pers.key)
    else
      match action.apply value r with
      | none => ((t.leave r.pers.key).advance, .changed r.pers.key)
      | some r' =>
        if r' = r then (t, .unchanged r.pers.key)
        else if action.persistent then ((t.put r').advance, .changed r.pers.key)
        else (t.put r', .changed r.pers.key)

/-- R29: the outcome of a heal step. -/
inductive HealOutcome where
  | loading
  | endOfPass
  | counted (k : Key)
  | healed (k : Key)
  | deferred (k : Key)
  deriving DecidableEq, Repr

/-- R29: the record a heal step examines. -/
def Table.healCandidate (t : Table) (position : Option Key) (f : FrameNo) : Option Record :=
  t.records.find? fun r =>
    aheadOf position r.pers.key && r.pers.origin == .detected && r.vol.probeFrame == some f

/-- R29 steps 1 and 2: the heal count after the step. -/
def Record.healCountAfter (r : Record) (f : FrameNo) : Nat :=
  if r.vol.lastFault.map LastFault.frame = some f then 0
  else min (r.vol.healCount + 1) Config.greatestHealCount

/-- R29: a heal step. -/
def Table.healStep (t : Table) (position : Option Key) (f : FrameNo) (healProbes : Nat) :
    Table × HealOutcome :=
  match t.state with
  | .loading => (t, .loading)
  | .ready =>
    match t.healCandidate position f with
    | none => (t, .endOfPass)
    | some r =>
      let counted := t.put { r with vol := { r.vol with healCount := r.healCountAfter f } }
      if r.healCountAfter f < healProbes then (counted, .counted r.pers.key)
      else if t.saveHold then (counted, .deferred r.pers.key)
      else ((t.leave r.pers.key).advance, .healed r.pers.key)

/-- R31: a save read. -/
def Table.saveRead (t : Table) (position : Option Key) : Option Persistent :=
  (t.records.find? fun r => aheadOf position r.pers.key).map Record.pers

/-! ## Geometry, protection test, saves and loads (R3, R30, R32, R146) -/

/-- R3: the emptiness test and the change of geometry; false is NOT_EMPTY. -/
def Table.changeGeometry (t : Table) (g : Geometry) : Table × Bool :=
  if t.state = .ready ∧ t.records = [] then ({ t with geometry := g }, true) else (t, false)

/-- R146: the protection test passes. -/
def Table.protectionPasses (t : Table) (level : AccessLevel) : Bool :=
  level == .service || !t.records.any fun r => r.pers.origin == .factory

/-- R30: begin save and end save. -/
def Table.hold (t : Table) (b : Bool) : Table := { t with saveHold := b }

/-- R30: begin load. -/
def Table.beginLoad (t : Table) : Table :=
  { t with records := [], state := .loading, generation := 0 }

/-- R30: load geometry. R17 lets the geometry change only while the table is empty, which it is after begin load (log entry 21). -/
def Table.loadGeometry (t : Table) (g : Geometry) : Table :=
  if t.records = [] then { t with geometry := g } else t

/-- R32: a load insert, granted only while the table is LOADING; false is *outside*. The refusals of R17 cannot arise in a load (R32) and count as *outside* (log entry 21). -/
def Table.loadInsert (t : Table) (p : Persistent) : Table × Bool :=
  if t.state = .loading ∧ t.geometry.contains p.key ∧ (t.find p.key).isNone ∧ t.full = false then
    (t.join p, true)
  else (t, false)

/-- R30: end load, success. -/
def Table.endLoadSuccess (t : Table) (generation : Word32) : Table :=
  { t with state := .ready, generation := generation }

/-- R30: end load, failure. -/
def Table.endLoadFailure (t : Table) : Table :=
  { t with records := [], geometry := .default, generation := 0, state := .ready }

end Sys2Proof.Machine
end

