-- ==== Sys2Proof/Machine/Store.lean ====
section
/-! DEFINITION. The image store's sequencing (chapter 9): what it asks for or sends next. -/
namespace Sys2Proof.Machine

/-- The store's flash operation in hand changes. -/
def State.setFlash (s : State) (op : FlashOp) : State := s.withStore { s.store with flash := op }

/-- The sequencing changes. -/
def State.setWork (s : State) (w : StoreWork) : State := s.withStore { s.store with work := w }

/-- R157: the store sends read status and polls within an allowance. -/
def State.poll (s : State) (allowance : Nat) : State :=
  (s.setFlash (.polling allowance)).flashSend .readStatus

/-- R157: write enable goes before an erase or a program. -/
def State.beginArray (s : State) (c : ArrayCommand) : State :=
  (s.setFlash (.enabling c)).flashSend .writeEnable

/-- R157: the transaction of an erase or a program. -/
def ArrayCommand.send : ArrayCommand → FlashCommand
  | .erase a => .sectorErase a
  | .program a bytes => .pageProgram a bytes

/-- R157: a read data transaction begins. -/
def State.beginRead (s : State) (address length : Nat) : State :=
  (s.setFlash (.reading address length)).flashSend (.readData address length)

/-- The store asks the table controller, no flash operation being in hand. -/
def State.storeAsks (s : State) (r : StoreReq) : State := (s.setFlash .none).askStore r

/-! ## Beginning (R159, R163) -/

/-- R30: the table operation of a beginning. -/
def BeginReq.request : BeginReq → StoreReq
  | .save => .beginSave
  | .load => .beginLoad

/-- R159, R163: an accepted save or load has its first table operation yet to be asked for, so that the commands taken after STARTED may reach the arbiter before it (log entry 29). -/
def State.startStore (s : State) (w : StoreWork) (b : BeginReq) : State :=
  s.withStore ⟨w, s.store.lastResult, .none, some b⟩

/-- R160, R164: the store asks for its first table operation, if it has yet to (log entry 29). -/
def State.askBegin (s : State) (b : BeginReq) : State :=
  if s.store.due = some b then (s.withStore { s.store with due := none }).askStore b.request else s

/-! ## Saving (R160 to R162) -/

/-- A save before its begin save. -/
def SaveWork.begun : SaveWork := ⟨none, crcStart, 0, none, [], 0, false, false, false⟩

/-- R160 steps 2 and 3: the header's values, read at begin save. -/
def State.saveHeader (s : State) : Header where
  count := s.table.records.length
  generation := s.table.generation
  geometry := s.table.geometry
  driveMax := s.walker.driveMax
  probeInterval := s.walker.probeInterval
  debounce := s.monitor.debounce
  healProbes := s.monitor.healProbes
  enable := s.monitor.enable

/-- R158: the offset of the page being assembled. -/
def SaveWork.pageOffset (w : SaveWork) : Nat :=
  Config.recordsOffset + Config.pageBytes * w.pagesProgrammed

/-- R161 step 2: a page is due when it is full, or partly filled with the records ended. -/
def SaveWork.pageDue (w : SaveWork) : Bool :=
  decide (Config.slotsPerPage * Config.slotBytes ≤ w.page.length) ||
  (w.recordsEnded && !w.page.isEmpty)

/-- R160 step 4, R161: what a save does next when no flash operation is in hand. -/
def State.saveNext (s : State) (w : SaveWork) : State :=
  if w.erased < Config.sectorsErased then s.beginArray (.erase (Config.sectorBytes * w.erased))
  else if w.headerProgrammed then s.storeAsks .endSave
  else if w.pageDue then s.beginArray (.program w.pageOffset w.page)
  else if w.recordsEnded then
    match w.header with
    | none => s
    | some h => s.beginArray (.program 0 (headerBytes h w.crc))
  else s.storeAsks (.saveRead w.position)

/-- R161 step 1: the outcome of a save read enters the page and the CRC. -/
def SaveWork.afterRead (w : SaveWork) : Option Persistent → SaveWork
  | none => { w with recordsEnded := true }
  | some p => { w with
      page := w.page ++ slotBytes p
      crc := crcOver w.crc (slotBytes p)
      position := some p.key }

/-- R157, R160, R161: the erase or program has ended, and is counted. -/
def SaveWork.afterArray (w : SaveWork) : ArrayCommand → SaveWork
  | .erase _ => { w with erased := w.erased + 1 }
  | .program 0 _ => { w with headerProgrammed := true }
  | .program _ _ => { w with page := [], pagesProgrammed := w.pagesProgrammed + 1 }

/-! ## Loading (R164 to R166) -/

/-- R166: the image is bad or the flash timed out: end load with failure is asked for. -/
def State.failLoad (s : State) : State := s.storeAsks .endLoadFailure

/-- R60, R166: the header's settings become the walker's, and end load with success is asked for after that. END_LOAD writes them again (log entry 35). -/
def State.succeedLoad (s : State) (h : Header) : State :=
  (s.setDrive h.driveMax h.probeInterval).storeAsks (.endLoadSuccess h.generation)

/-- R165: the next slot is read, or the CRC compared. -/
def State.loadNext (s : State) (w : LoadWork) (h : Header) : State :=
  if w.slots < h.count then
    s.beginRead (Config.recordsOffset + Config.slotBytes * w.slots) Config.slotBytes
  else if w.crc = w.headerCrc then s.succeedLoad h
  else s.failLoad

/-- R164 steps 4 to 6: the 32 header bytes have been read. -/
def State.headerRead (s : State) (w : LoadWork) (bytes : List Byte) : State :=
  match headerOfBytes bytes with
  | none => s.failLoad
  | some h =>
    (s.setWork (.loading { w with
      header := some h
      headerCrc := storedCrc bytes
      crc := crcOver crcStart (bytes.take 30) })).storeAsks (.loadGeometry h.geometry)

/-- R165: the record's key is ahead of the slot before's. -/
def LoadWork.inOrder (w : LoadWork) (p : Persistent) : Bool := aheadOf w.lastKey p.key

/-- R165: a record slot has been read. -/
def State.slotRead (s : State) (w : LoadWork) (bytes : List Byte) : State :=
  match slotRecord bytes with
  | none => s.failLoad
  | some p =>
    if w.inOrder p then
      (s.setWork (.loading { w with crc := crcOver w.crc bytes })).storeAsks (.loadInsert p)
    else s.failLoad

/-- R164 step 3: the monitor has taken load start, and the store waits for the flash to be idle. -/
def State.afterLoadStart (s : State) : State :=
  match s.store.work with
  | .loading _ => s.poll Config.idleAllowance
  | .idle | .saving _ => s

/-- R166 step 4: the monitor has taken load end; the store becomes IDLE with its result. -/
def State.afterLoadEnd (s : State) : State :=
  match s.store.work with
  | .loading w =>
    if w.ended = some true then
      (s.withStore ⟨.idle, .loaded, .none, none⟩).raise .storeDone
    else (s.withStore ⟨.idle, .imageBad, .none, none⟩).raise .imageBad
  | .idle | .saving _ => s

/-- R161 step 5, R162 step 3: end save is complete. -/
def State.afterEndSave (s : State) : State :=
  match s.store.work with
  | .saving w =>
    if w.faulted then (s.withStore ⟨.idle, .saveFault, .none, none⟩).raise .storeFault
    else (s.withStore ⟨.idle, .saved, .none, none⟩).raise .storeDone
  | .idle | .loading _ => s

end Sys2Proof.Machine
end

