-- ==== Sys2Proof/Machine/Monitor.lean ====
section
/-! DEFINITION. The fault monitor (chapters 4 and 5): step points, the processing of a report and the heal pass. -/
namespace Sys2Proof.Machine

/-! ## Requests taken at a step point (R68, R81 to R85) -/

/-- R79: the report in hand and its heal pass are discarded and the buffer is emptied. -/
def Monitor.dropReports (m : Monitor) (state : MonitorState) : Monitor :=
  { m with state := state, inHand := none, buffer := none, entryPosition := 0, checkPosition := 0,
           healPosition := none }

/-- R85: load start. -/
def Monitor.takeLoadStart (m : Monitor) : Monitor :=
  { m.dropReports (if m.state = .off then .off else .idle) with loadMark := true, suspects := [] }

/-- R85: load end. -/
def Monitor.takeLoadEnd (m : Monitor) (debounce healProbes : Nat) (enable : Bool) : Monitor :=
  { m with debounce := debounce, healProbes := healProbes, enable := enable, loadMark := false,
           state := if enable then .idle else .off }

/-- R80, R81: SET_MONITOR. -/
def Monitor.takeSettings (m : Monitor) (debounce healProbes : Nat) (enable : Bool) : Monitor :=
  let written := { m with debounce := debounce, healProbes := healProbes, enable := enable }
  if enable = m.enable then written
  else { written.dropReports (if enable then .idle else .off) with suspects := [] }

/-- R68: one request is taken, as one action, and the block that waits for it goes on. -/
def State.takeAsk (s : State) : MonitorAsk → State
  | .emptyList => s.withMonitor { s.monitor with suspects := [] }
  | .loadStart => (s.withMonitor s.monitor.takeLoadStart).afterLoadStart
  | .loadEnd d h e => (s.withMonitor (s.monitor.takeLoadEnd d h e)).afterLoadEnd
  | .setMonitor via d h e =>
    (s.withMonitor (s.monitor.takeSettings d h e)).respond via .ok (monitorBytes d h e)
  | .suspects => s.respondHand .ok (suspectsAnswer s.monitor.suspects)
  | .clearSuspects =>
    (s.withMonitor { s.monitor with suspects := [] }).respondHand .ok
      [byte s.monitor.suspects.length]

/-- R68: at a step point the monitor takes every waiting request, in the order of their arrival (log entry 16). -/
def State.stepPoint (s : State) : State :=
  s.monitor.waiting.foldl State.takeAsk (s.withMonitor { s.monitor with waiting := [] })

/-- R68: the monitor is at a step point whenever it is IDLE or OFF. -/
def Monitor.atRest (m : Monitor) : Bool := m.state == .idle || m.state == .off

/-- R68: a request arrives; it is taken at once when the monitor is IDLE or OFF, and otherwise waits. -/
def State.askOfMonitor (s : State) (a : MonitorAsk) : State :=
  let posted := s.withMonitor { s.monitor with waiting := s.monitor.waiting ++ [a] }
  if s.monitor.atRest then posted.stepPoint else posted

/-! ## The course of a report (R70, R71, R78, R79) -/

/-- The report's processing is over, with no other to take: IDLE, a step point. -/
def State.monitorIdle (s : State) : State :=
  (s.withMonitor { s.monitor with state := .idle, inHand := none, healPosition := none }).stepPoint

/-- R79 case 1: the report is abandoned on a *loading* outcome. -/
def State.abandonReport (s : State) : State :=
  (s.withMonitor (s.monitor.dropReports .idle)).stepPoint

/-- R71: the entry names the same channel as the entry before it. -/
def sameChannel (a b : ReportEntry) : Bool :=
  a.row == b.row && a.col == b.col && a.colour == b.colour

/-- R71: an entry that is not ignored, as its key, colour and kind. -/
def countedEntry (g : Geometry) (before : Option ReportEntry) (e : ReportEntry) :
    Option (Key × Colour × FaultKind) :=
  match e.colour, e.kind with
  | some c, some k =>
    if g.contains (keyOf e.row e.col) ∧ (before.map (sameChannel e)).getD false = false then
      some (keyOf e.row e.col, c, k)
    else none
  | _, _ => none

/-- R78: the entries done, unseen suspects of a complete report are removed, and after a step point the heal pass begins, or a truncated report's processing ends. -/
def State.finishEntries (onEnd : State → State) (s : State) : State :=
  match s.monitor.inHand with
  | none => s
  | some r =>
    let kept := if r.truncated then s.monitor.suspects
      else s.monitor.suspects.filter fun e => e.lastFrame = r.frame
    let done := (s.withMonitor { s.monitor with suspects := kept }).stepPoint
    if done.monitor.inHand.isNone then done
    else if r.truncated then onEnd done
    else
      (done.withMonitor { done.monitor with state := .healing, healPosition := none }).askMonitor
        (.heal none r.frame done.monitor.latchedHealProbes)

/-- R71: the entries from a place on, the one before given. Ignored entries are passed, each followed by a step point; the first other one asks for its fault update (R72). -/
def State.handleEntries (onEnd : State → State) :
    Option ReportEntry → List ReportEntry → State → State
  | _, [], s => s.finishEntries onEnd
  | before, e :: rest, s =>
    match s.monitor.inHand, countedEntry s.table.geometry before e with
    | none, _ => s
    | some r, some (key, c, k) => s.askMonitor (.faultUpdate key c k r.frame)
    | some _, none =>
      let passed := (s.withMonitor
        { s.monitor with entryPosition := s.monitor.entryPosition + 1 }).stepPoint
      if passed.monitor.inHand.isNone then passed else passed.handleEntries onEnd (some e) rest

/-- The entry before the entry position. -/
def entryBefore (r : Report) (position : Nat) : Option ReportEntry :=
  match position with
  | 0 => none
  | n + 1 => r.entries[n]?

/-- The entries from the entry position on. -/
def State.continueEntries (onEnd : State → State) (s : State) : State :=
  match s.monitor.inHand with
  | none => s
  | some r =>
    s.handleEntries onEnd (entryBefore r s.monitor.entryPosition)
      (r.entries.drop s.monitor.entryPosition)

/-- R70: the suspect check goes on with the next entry of the list, or ends. -/
def State.checkSuspects (onEnd : State → State) (s : State) : State :=
  match s.monitor.suspects[s.monitor.checkPosition]? with
  | some e => s.askMonitor (.find e.key)
  | none => s.continueEntries onEnd

/-- R70: a report is taken in hand, with the settings latched; the moment is a step point. -/
def State.takeReport (onEnd : State → State) (r : Report) (s : State) : State :=
  let taken := (s.withMonitor { s.monitor with
    state := .processing
    inHand := some r
    latchedDebounce := s.monitor.debounce
    latchedHealProbes := s.monitor.healProbes
    entryPosition := 0
    checkPosition := 0
    healPosition := none }).stepPoint
  if taken.monitor.inHand.isNone then taken else taken.checkSuspects onEnd

/-- R79, R66: the report ends in the ordinary way; the buffered report is taken without passing through IDLE. -/
def State.endReport (s : State) : State :=
  match s.monitor.buffer with
  | none => s.monitorIdle
  | some r => (s.withMonitor { s.monitor with buffer := none }).takeReport State.monitorIdle r

/-- R71: an entry has been handled; the moment is a step point. -/
def State.entryHandled (s : State) : State :=
  let handled := (s.withMonitor
    { s.monitor with entryPosition := s.monitor.entryPosition + 1 }).stepPoint
  if handled.monitor.inHand.isNone then handled else handled.continueEntries State.endReport

/-- R64: the report as the monitor keeps it. -/
def keptReport (r : Report) : Report :=
  { r with truncated := r.truncated || decide (Config.reportEntries < r.entries.length)
           entries := r.entries.take Config.reportEntries }

/-- R67: a report arrives. -/
def State.reportArrives (s : State) (r : Report) : State :=
  match s.monitor.state with
  | .off => s
  | .idle => if s.monitor.loadMark then s else s.takeReport State.endReport (keptReport r)
  | .processing | .healing =>
    if s.monitor.buffer.isSome then s.raise .reportOverrun
    else s.withMonitor { s.monitor with buffer := some (keptReport r) }

/-! ## The suspect list (R73 to R76) -/

/-- The suspect names a channel. -/
def Suspect.names (e : Suspect) (key : Key) (c : Colour) : Bool := e.key == key && e.colour == c

/-- R73: a suspect counted by a report, before its state is settled. -/
def Suspect.counted (e : Suspect) (k : FaultKind) (f : FrameNo) : Suspect :=
  { e with
    count := if e.kind = k then min (e.count + 1) Config.greatestSuspectCount else 1
    kind := k
    lastFrame := f }

/-- The entry for a channel is replaced. -/
def setSuspect (key : Key) (c : Colour) (g : Suspect → Suspect) (l : List Suspect) :
    List Suspect :=
  l.map fun e => if e.names key c then g e else e

/-- The entry for a channel leaves, and the entries behind it keep their order (R69). -/
def dropSuspect (key : Key) (c : Colour) (l : List Suspect) : List Suspect :=
  l.filter fun e => !e.names key c

/-- The suspect list changes. -/
def State.setSuspects (s : State) (l : List Suspect) : State :=
  s.withMonitor { s.monitor with suspects := l }

/-- R73, R74: the channel of an entry whose fault update found no record. -/
def State.suspectNamed (s : State) (key : Key) (c : Colour) (k : FaultKind) (f : FrameNo) : State :=
  match s.monitor.suspects.find? (fun e => e.names key c) with
  | some e =>
    if s.monitor.latchedDebounce ≤ (e.counted k f).count then
      (s.setSuspects (setSuspect key c (fun x => x.counted k f) s.monitor.suspects)).askMonitor
        (.promote key c k f)
    else
      (s.setSuspects (setSuspect key c (fun x => { x.counted k f with state := .counting })
        s.monitor.suspects)).entryHandled
  | none =>
    if Config.suspectCapacity ≤ s.monitor.suspects.length then
      (s.raise .suspectFull).entryHandled
    else
      (s.setSuspects (s.monitor.suspects ++ [⟨key, c, k, 1, f, .counting⟩])).entryHandled

/-- R72: the monitor acts on the outcome of a fault update. -/
def State.faultUpdated (s : State) (key : Key) (c : Colour) (k : FaultKind) (f : FrameNo) :
    UpdateOutcome → State
  | .loading => s.abandonReport
  | .none => s.suspectNamed key c k f
  | .extended => (s.raisePromoted key).entryHandled
  | .notDetected => (s.raiseRecordFault key).entryHandled
  | .extensionSkipped | .updated => s.entryHandled

/-- R76: the suspect's place in the list when an attempt is held. -/
def State.holdSuspect (s : State) (key : Key) (c : Colour) : State :=
  s.setSuspects (setSuspect key c (fun x => { x with state := .held }) s.monitor.suspects)

/-- R76: the suspect was COUNTING before the attempt. -/
def Monitor.counting (m : Monitor) (key : Key) (c : Colour) : Bool :=
  m.suspects.any fun e => e.names key c && e.state == .counting

/-- R76: the suspect leaves the list. -/
def State.filed (s : State) (key : Key) (c : Colour) : State :=
  s.setSuspects (dropSuspect key c s.monitor.suspects)

/-- R76: the monitor acts on the outcome of a promotion insert. -/
def State.promotionAnswered (s : State) (key : Key) (c : Colour) : PromotionOutcome → State
  | .loading => s.abandonReport
  | .outside => (s.filed key c).entryHandled
  | .inserted => ((s.filed key c).raisePromoted key).entryHandled
  | .merged .extended => ((s.filed key c).raisePromoted key).entryHandled
  | .merged .notDetected => ((s.filed key c).raiseRecordFault key).entryHandled
  | .merged .updated | .merged .extensionSkipped | .merged .none | .merged .loading =>
    (s.filed key c).entryHandled
  | .heldBySave => (s.holdSuspect key c).entryHandled
  | .full =>
    if s.monitor.counting key c then ((s.holdSuspect key c).raise .tableFull).entryHandled
    else (s.holdSuspect key c).entryHandled

/-- R70: the monitor acts on the outcome of a find of the suspect check. An entry removed leaves the list here, where a STATUS can see it (log entry 34). -/
def State.suspectChecked (s : State) : FindOutcome → State
  | .loading => s.abandonReport
  | .found _ =>
    (s.setSuspects (s.monitor.suspects.eraseIdx s.monitor.checkPosition)).checkSuspects
      State.endReport
  | .none =>
    (s.withMonitor { s.monitor with checkPosition := s.monitor.checkPosition + 1 }).checkSuspects
      State.endReport

/-! ## The heal pass (R92) -/

/-- R92: the next heal step, after the step point between two. -/
def State.nextHealStep (s : State) (k : Key) : State :=
  let moved := (s.withMonitor { s.monitor with healPosition := some k }).stepPoint
  match moved.monitor.inHand with
  | none => moved
  | some r => moved.askMonitor (.heal (some k) r.frame moved.monitor.latchedHealProbes)

/-- R92: the monitor acts on the outcome of a heal step. -/
def State.healStepped (s : State) : HealOutcome → State
  | .loading => s.abandonReport
  | .endOfPass => s.endReport
  | .counted k | .deferred k => s.nextHealStep k
  | .healed k => (s.raiseHealed k).nextHealStep k

/-- R87: RESTART resets the monitor. The report latches, of which R87 says nothing, stay, and the positions become 0 (log entry 33). -/
def Monitor.restarted (m : Monitor) : Monitor :=
  { m.dropReports (if m.enable then .idle else .off) with suspects := [], waiting := [] }

end Sys2Proof.Machine
end

