-- ==== Sys2Proof/Machine/Walker.lean ====
section
/-! DEFINITION. The raster walker (chapter 3) and the drive codes (1.6). -/
namespace Sys2Proof.Machine

/-! ## Drive codes (R14 to R16) -/

/-- R14: the base drive code. -/
def baseCode (level driveMax : Nat) : Nat := level * driveMax / 4095

/-- R16: the probe code. -/
def probeCode (driveMax : Nat) : Nat := max 1 (driveMax / 64)

/-- R16 items 2 and 3, on a frame whose emitter may be probed (items 1, 4 and 5). -/
def probes (probing : Bool) (r : Record) (c : Colour) : Bool :=
  probing && r.pers.status == .active && (r.pers.action c).mode == .mute && (r.pers.action c).auto

/-- R15: the drive code of one channel. -/
def driveCode (driveMax : Nat) (probing : Bool) (found : Option Record) (c : Colour)
    (level : Nat) : Nat :=
  match found with
  | none => baseCode level driveMax
  | some r =>
    match r.pers.status with
    | .dormant => baseCode level driveMax
    | .active =>
      match (r.pers.action c).mode with
      | .pass => baseCode level driveMax
      | .trim => min driveMax (baseCode level driveMax * (r.pers.action c).value / 1024)
      | .mute => if probes probing r c then probeCode driveMax else 0
      | .hold => min (r.pers.action c).value driveMax

/-- R49: the colours driven at the probe code. -/
def probedColours (probing : Bool) (found : Option Record) : List Colour :=
  match found with
  | none => []
  | some r => colours.filter (probes probing r)

/-- R50: the find returned a record that is ACTIVE. -/
def countsAsApplied (found : Option Record) : Bool :=
  match found with
  | none => false
  | some r => r.pers.status == .active

/-- R42, R50: the running applied count after a find. Every ACTIVE record found counts, and the count stays at 512, the greatest value R42 gives it (log entry 30). -/
def Walker.runningAfter (w : Walker) (found : Option Record) : Nat :=
  min (w.running + if countsAsApplied found then 1 else 0) Config.greatestAppliedCount

/-! ## Blank sends (R57) -/

/-- R57: a blank send starts over the geometry in force. -/
def State.startBlank (s : State) : State :=
  (s.withWalker { s.walker with blankSend := some s.table.geometry }).drive [.startMark]

/-! ## Walking (R44, R48) -/

/-- R44: the levels of a whole frame of the latched geometry. -/
def Walker.frameLevels (w : Walker) : Nat := w.latches.geometry.channels

/-- R48: when the three levels of the emitter at the position have arrived and the walker is free, it asks for its find. -/
def State.driveNext (s : State) : State :=
  if s.walker.state = .walking ∧ s.walker.ending = none ∧ s.arbiter.walker = none
      ∧ 3 ≤ s.walker.levels.length then
    s.askWalker (.find s.walker.position)
  else s

/-- R44, R51, R53: a level arrives. In WALKING a level after a frame start that waits belongs to that frame (log entry 10); outside WALKING every level is ignored. -/
def State.levelArrives (s : State) (l : Level) : State :=
  if s.walker.state ≠ .walking then s
  else if s.walker.held ∨ s.walker.ending = some .short then
    s.withWalker { s.walker with heldLevels := s.walker.heldLevels ++ [l] }
  else if s.walker.ending = none ∧ s.walker.arrived < s.walker.frameLevels then
    (s.withWalker { s.walker with
      levels := s.walker.levels ++ [l], arrived := s.walker.arrived + 1 }).driveNext
  else s

/-- R46: the frame is a probe frame. -/
def isProbeFrame (i : ProbeInterval) (f : FrameNo) : Bool :=
  i != .off && f.toNat % i.frames == 0

/-- R45: the settings a frame start latches. -/
def State.latch (s : State) : FrameLatches where
  geometry := s.table.geometry
  driveMax := s.walker.driveMax
  probeInterval := s.walker.probeInterval
  probeFrame := isProbeFrame s.walker.probeInterval (s.walker.frameNumber + 1)

/-- R45: a frame begins, as one action; then the levels that waited for it are taken. -/
def State.beginFrame (s : State) : State :=
  let begun := (s.withWalker { s.walker with
    state := .walking
    frameNumber := s.walker.frameNumber + 1
    latches := s.latch
    position := ⟨0, 0⟩
    running := 0
    timer := .running
    blankSend := none
    levels := []
    arrived := 0
    held := false
    heldLevels := []
    heldExpiry := false
    ending := none }).drive [.startMark]
  s.walker.heldLevels.foldl State.levelArrives begun

/-! ## Ends of a frame (R52 to R56) -/

/-- R54 steps 2 to 5: the frame ends short and the new one begins. -/
def State.endShort (s : State) : State := (s.raise .shortFrame).beginFrame

/-- R56: video is lost. -/
def State.loseVideo (s : State) : State :=
  (((s.withWalker { s.walker with
    state := .blank
    running := 0
    timer := .stopped
    levels := []
    arrived := 0
    heldExpiry := false
    ending := none }).startBlank).raise .videoLost).askOfMonitor .emptyList

/-- R54 step 1, R56 step 1: the request of an abandoned frame is finished. -/
def State.endAbandoned (s : State) : Ending → State
  | .short => s.endShort
  | .lost => s.loseVideo

/-- R52: the frame is complete, as one action; an expiry held with no frame start is then taken (R53; log entry 8). -/
def State.completeFrame (s : State) : State :=
  let done := (s.withWalker { s.walker with
    state := .waiting
    lastCompleted := some s.walker.frameNumber
    appliedCount := s.walker.running
    levels := [] }).drive [.latch s.walker.frameNumber true]
  if s.walker.heldExpiry ∧ s.walker.held = false then done.loseVideo else done

/-- R48 step 6, R52: the emitter at the position has been driven. -/
def State.emitterDriven (s : State) : State :=
  if s.walker.position = s.walker.latches.geometry.last then s.completeFrame
  else
    (s.withWalker { s.walker with
      position := s.walker.latches.geometry.after s.walker.position
      levels := s.walker.levels.drop 3 }).driveNext

/-- R16 items 1, 4 and 5, read when the emitter is driven. -/
def State.probing (s : State) : Bool :=
  s.walker.latches.probeFrame && s.monitor.enable && s.table.state == .ready

/-- R48 step 2: the three codes of the emitter at the position. -/
def State.emitterCodes (s : State) (found : Option Record) : List DriveItem :=
  match s.walker.levels with
  | r :: g :: b :: _ =>
    [.codes
      (driveCode s.walker.latches.driveMax s.probing found .red r.toNat)
      (driveCode s.walker.latches.driveMax s.probing found .green g.toNat)
      (driveCode s.walker.latches.driveMax s.probing found .blue b.toNat)]
  | _ => []

/-- R48 steps 2 to 5: the walker acts on the outcome of its find. -/
def State.emitterFound (s : State) (found : Option Record) : State :=
  match s.walker.ending with
  | some e => s.endAbandoned e
  | none =>
    let driven := (s.withWalker { s.walker with
      running := s.walker.runningAfter found }).drive (s.emitterCodes found)
    match probedColours s.probing found with
    | [] => driven.emitterDriven
    | cs => driven.askWalker (.stamp s.walker.position s.walker.frameNumber cs)

/-- R49: the stamp is made or discarded, and the walker goes on. -/
def State.emitterStamped (s : State) : State :=
  match s.walker.ending with
  | some e => s.endAbandoned e
  | none => s.emitterDriven

/-! ## Frame starts and expiries as they arrive (R45, R53, R54, R56) -/

/-- The frame in hand is abandoned in a way, at once or when the walker's request is finished. -/
def State.abandonFrame (s : State) (e : Ending) : State :=
  if s.arbiter.walker = none then s.endAbandoned e
  else s.withWalker { s.walker with ending := some e, heldLevels := [] }

/-- R53: the frame start is held, in place of one held before. -/
def State.holdFrameStart (s : State) : State :=
  s.withWalker { s.walker with held := true, heldLevels := [] }

/-- R45, R53, R54 (log entries 8 and 10). -/
def State.frameStartArrives (s : State) : State :=
  match s.walker.state with
  | .idle | .waiting | .blank => if s.walker.held then s.holdFrameStart else s.beginFrame
  | .walking =>
    match s.walker.ending with
    | some .short => s.withWalker { s.walker with heldLevels := [] }
    | some .lost => s.holdFrameStart
    | none =>
      if s.walker.arrived = s.walker.frameLevels then s.holdFrameStart else s.abandonFrame .short

/-- R53: the held frame start is taken, in WAITING, or in BLANK when the expiry came first. -/
def State.takeHeldFrameStart (s : State) : State :=
  if s.walker.held ∧ s.walker.state ≠ .walking then s.beginFrame else s

/-- R53, R55, R56: the timer runs out, or a held expiry is taken in WAITING (log entries 8 and 10). -/
def State.timerExpires (s : State) : State :=
  match s.walker.timer with
  | .stopped => s
  | .running =>
    match s.walker.state with
    | .idle | .blank => s
    | .waiting => s.loseVideo
    | .walking =>
      if s.walker.ending.isSome then s
      else if s.walker.arrived = s.walker.frameLevels then
        s.withWalker { s.walker with heldExpiry := true }
      else s.abandonFrame .lost

/-- R57: a blank send's zeros have been shifted and its latch is sent. -/
def State.blankSent (s : State) : State :=
  match s.walker.blankSend with
  | none => s
  | some g =>
    (s.withWalker { s.walker with blankSend := none }).drive
      [.zeros g.channels, .latch s.walker.frameNumber false]

/-- R62: RESTART resets the walker. The raster position and the frame latches, of which R62 says nothing, stay those of the last frame (log entry 36). -/
def Walker.restarted (w : Walker) : Walker :=
  { w with
    state := .idle
    timer := .stopped
    running := 0
    levels := []
    arrived := 0
    held := false
    heldLevels := []
    heldExpiry := false
    ending := none }

end Sys2Proof.Machine
end

