-- ==== Sys2Proof/Machine/Port.lean ====
section
/-! DEFINITION. The service port: addresses, the treatment of a write's first data byte, and reads (R175 to R180). -/
namespace Sys2Proof.Machine

/-- R175: the unit address. -/
def Pins.unitAddress (p : Pins) : BitVec 7 := Config.unitAddressBase + p.straps.setWidth 7

/-- R175: whose write an address byte begins; none is not acknowledged. -/
def State.addressed (s : State) (address : BitVec 7) : Option Via :=
  if address = s.pins.unitAddress then some .unit
  else if address = Config.groupAddress then some .group
  else none

/-- R177: the engine is IDLE. -/
def Engine.idle (e : Engine) : Bool := e.hand.isNone

/-- The treatment of the write being received changes. -/
def State.setWrite (s : State) (w : PortWrite) : State := s.withEngine { s.engine with write := w }

/-- R177: a request is accepted at the unit address; an answer not yet read is discarded with ANSWER_LOST. -/
def State.acceptRequest (s : State) : State :=
  if s.engine.answer.isSome then
    (s.withEngine { s.engine with answer := none }).raise .answerLost
  else s

/-- R177, R179: the first data byte of a unit write. -/
def State.unitFirstByte (s : State) (b : Byte) : State :=
  if b = Config.abortByte then (s.setWrite .abortByte).bus [.firstByte true]
  else if s.engine.idle then (s.acceptRequest.setWrite .unitAccepted).bus [.firstByte true]
  else (s.setWrite .unitRefused).bus [.firstByte false]

/-- R180: the first data byte of a group write. -/
def State.groupFirstByte (s : State) : State :=
  if s.engine.idle then (s.setWrite .groupAccepted).bus [.firstByte true]
  else (s.setWrite .groupRefused).bus [.firstByte false]

/-- R177, R179, R180: the write that ends here was refused at its first byte, or is refused now because its first byte comes with it (log entry 11). -/
def State.refusesWrite (s : State) (via : Via) : Bool :=
  s.engine.hand.isSome ||
  (match via, s.engine.write with
    | .unit, .unitRefused | .unit, .abortByte | .group, .groupRefused => true
    | _, _ => false)

/-- R177, R180: the write that ends here is taken. A unit write whose first byte was not seen apart is accepted now (log entry 11). -/
def State.acceptWrite (s : State) (via : Via) : State :=
  match via with
  | .group => s.setWrite .none
  | .unit =>
    if s.engine.write = .unitAccepted then s.setWrite .none else s.acceptRequest.setWrite .none

/-- The first data byte of a write at this address has been seen apart, with its address byte (log entry 11). -/
def PortWrite.begunAt (w : PortWrite) (via : Via) : Bool :=
  match via, w with
  | .unit, .unitAccepted | .unit, .unitRefused | .unit, .abortByte => true
  | .group, .groupAccepted | .group, .groupRefused => true
  | _, _ => false

/-- R175: what the port does on the bus in the row that ends a write: the address byte is acknowledged there unless it was seen apart. -/
def State.endItems (s : State) (via : Via) (acknowledged : Nat) : List PortItem :=
  (if s.engine.write.begunAt via then [] else [.address true]) ++ [.acknowledged acknowledged]

/-- R177, R180: a write refused leaves no trace, and none of its data bytes is acknowledged; of the later bytes of a group write R180 does not say so (log entry 37). -/
def State.discardWrite (s : State) (via : Via) : State :=
  (s.setWrite .none).bus (s.endItems via 0)

/-- R176: a write that carries an executable command ends: the command is handed to the engine, or the write is discarded. -/
def State.takeCommand (s : State) (via : Via) (code : Byte) (body : State → State) : State :=
  if s.refusesWrite via then s.discardWrite via
  else body ((s.acceptWrite via).bus (s.endItems via (2 + (paramLength code).getD 0)))

/-- R176: the port answers a request itself. -/
def State.portAnswers (s : State) (code : ResultCode) : State := s.respond .unit code []

/-- R178: what a read at the unit address sends and leaves. -/
def State.readAnswer (s : State) (count : Nat) : State :=
  match s.engine.answer with
  | some a =>
    (if count = 0 then s else s.withEngine { s.engine with answer := none }).bus
      [.address true, .sent (answerSent a count)]
  | none =>
    s.bus [.address true, .sent (List.replicate count (if s.engine.idle then 0x81 else 0x80))]

/-- R179: an ABORT is taken by the engine. -/
def State.takeAbort (s : State) : State :=
  match s.engine.hand with
  | none => s
  | some job =>
    match job.sweep with
    | none => s
    | some sw =>
      s.withEngine { s.engine with hand := some { job with sweep := some { sw with abortMark := true } } }

/-- R179: an ABORT write ends, only its first byte acknowledged. -/
def State.abortEnds (s : State) : State :=
  (s.takeAbort.setWrite .none).bus (s.endItems .unit 1)

end Sys2Proof.Machine
end

