-- ==== Sys2Proof/Machine/Service.lean ====
section
/-! DEFINITION. The command engine: what each command does when it is taken, and what the engine does with the outcome of its table operation (chapters 6 to 11). -/
namespace Sys2Proof.Machine

/-! ## Commands that are carried out at once -/

/-- R181. -/
def State.startDescribe (s : State) : State := s.respond .unit .ok (describeAnswer s.table.geometry)

/-- R172: the copy and the clear are one action. -/
def State.startReadEvents (s : State) : State :=
  (s.withEvents s.events.cleared).respond .unit .ok (eventsAnswer s.events)

/-- R173. -/
def State.startSetEventMask (mask : Word16) (s : State) : State :=
  match maskOfWord mask with
  | none => s.respond .unit .badField []
  | some m => (s.withEvents { s.events with mask := m }).respond .unit .ok (be16 mask.toNat)

/-- R154. -/
def State.startReadViolation (s : State) : State :=
  (s.withAccess { s.access with violation := none, furtherCount := 0 }).respond .unit .ok
    (violationAnswer s.access)

/-- R149, also during a start-up load, as R167 says of the access commands; R155 has the level OPERATOR meanwhile (log entry 31). -/
def State.startOpenService (s : State) : State :=
  if s.pins.svcEn then
    (s.withAccess { s.access with level := .service }).respond .unit .ok [AccessLevel.service.code]
  else
    (s.reportViolation ⟨0x06, none, s.access.level, .notPermitted⟩).respond .unit .notPermitted []

/-- R150. -/
def State.startCloseService (via : Via) (s : State) : State :=
  (s.withAccess { s.access with level := .operator }).respond via .ok [AccessLevel.operator.code]

/-- R59. -/
def State.startSetDrive (via : Via) (driveMax : Word16) (interval : Byte) (s : State) : State :=
  match ProbeInterval.ofCode interval.toNat with
  | none => s.respond via .badField []
  | some i =>
    if driveMaxValid driveMax.toNat then
      (s.setDrive driveMax.toNat i).respond via .ok
        (be16 driveMax.toNat ++ [interval])
    else s.respond via .badField []

/-- R159. -/
def State.startSave (via : Via) (s : State) : State :=
  if s.store.state = .idle ∧ s.table.state = .ready then
    (s.startStore (.saving .begun) .save).respond via .started []
  else s.respond via .storeBusy []

/-! ## RESTART (R183) -/

/-- R40, R87: the table after the operation of the walker or the monitor that is in progress, completed whole. -/
def State.tableAtRestart (s : State) : Table :=
  match s.arbiter.inProgress with
  | some .walker =>
    match s.arbiter.walker with
    | some (.stamp key f cs) => s.table.stamp key f cs
    | some (.find _) | none => s.table
  | some .monitor =>
    match s.arbiter.monitor with
    | some (.faultUpdate key c k f) => (s.table.faultUpdate key c k f).1
    | some (.promote key c k f) => (s.table.promote key c k f).1
    | some (.heal position f n) => (s.table.healStep position f n).1
    | some (.find _) | none => s.table
  | some .store | some .engine | none => s.table

/-- R40: the requests of the walker and the monitor are withdrawn. -/
def Arbiter.restarted (a : Arbiter) : Arbiter :=
  { a with
    walker := none
    monitor := none
    inProgress := match a.inProgress with
      | some .walker | some .monitor | none => none
      | some .store => some .store
      | some .engine => some .engine }

/-- R183: the resets of RESTART, in their order. -/
def State.restartBlocks (s : State) : State :=
  let withdrawn := ((s.withTable s.tableAtRestart).withArbiter s.arbiter.restarted).grantNext
  let walkerReset := (withdrawn.withWalker withdrawn.walker.restarted).startBlank
  let monitorReset := walkerReset.withMonitor walkerReset.monitor.restarted
  let accessReset := monitorReset.withAccess .afterReset
  let eventsReset := accessReset.withEvents accessReset.events.cleared
  eventsReset.withEngine .afterReset

/-- R183. -/
def State.startRestart (via : Via) (s : State) : State :=
  if s.store.state = .idle then s.restartBlocks else s.respond via .storeBusy []

/-! ## Commands that wait for the monitor or the table -/

/-- R80. -/
def State.startSetMonitor (via : Via) (debounce healProbes enable : Byte) (s : State) : State :=
  if monitorSettingsValid debounce.toNat healProbes.toNat enable.toNat then
    (s.takeInHand 0x12 via).askOfMonitor
      (.setMonitor via debounce.toNat healProbes.toNat (enable.toNat == 1))
  else s.respond via .badField []

/-- R82. -/
def State.startSuspects (s : State) : State := (s.takeInHand 0x28 .unit).askOfMonitor .suspects

/-- R83. -/
def State.startClearSuspects (s : State) : State :=
  (s.takeInHand 0x29 .unit).askOfMonitor .clearSuspects

/-- R105, R182: the engine enters EXECUTING with its one table operation asked for. -/
def State.startTableCommand (code : Byte) (r : EngineReq) (s : State) : State :=
  (s.takeInHand code .unit).askEngine r

/-- R3: the row count is checked before the geometry change is asked for. -/
def State.startSetGeometry (rowsLessOne colsLessOne : Byte) (s : State) : State :=
  if 127 < rowsLessOne.toNat then s.respond .unit .badField []
  else s.startTableCommand 0x10 (.geometryChange ⟨rowsLessOne.toNat + 1, colsLessOne.toNat + 1⟩)

/-- R163: the store state is read before the protection test is asked for. -/
def State.startLoad (s : State) : State :=
  if s.store.state = .idle then s.startTableCommand 0x31 .protectionTest
  else s.respond .unit .storeBusy []

/-- R4 item 4, R130: the sweep in hand, with the geometry in force, asks first for a status read. -/
def State.startSweep (p : SweepParams) (s : State) : State :=
  (s.withEngine { s.engine with
    hand := some ⟨0x25, .unit, some ⟨.starting p s.table.geometry, false⟩⟩ }).askEngine .statusRead

/-! ## Outcomes of table commands (R106, R109) -/

/-- R106: the answer to a table command, with the generation number its operation left. `done` is OK, or END for NEXT. -/
def State.answerEdit (s : State) (doneCode : ResultCode) : EditOutcome → State
  | .refused code => s.respondHand code (be32 s.table.generation)
  | .done => s.respondHand doneCode (be32 s.table.generation)
  | .doneWith r => s.respondHand .ok (recordAnswer s.table.generation r)

/-- R109: a violation is recorded before a PROTECTED refusal is answered. -/
def State.answerGuarded (s : State) (code : Byte) (key : Key) (level : AccessLevel)
    (o : EditOutcome) : State :=
  if o = .refused .protected_ then
    (s.reportViolation ⟨code, some key, level, .protected_⟩).answerEdit .ok o
  else s.answerEdit .ok o

/-- R3: the outcome of the geometry change; a changed geometry posts a suspect clear. -/
def State.geometryAnswered (s : State) (before g : Geometry) (changed : Bool) : State :=
  if changed then
    if before = g then s.respondHand .ok (geometryBytes g)
    else (s.respondHand .ok (geometryBytes g)).askOfMonitor .emptyList
  else s.respondHand .notEmpty []

/-- R146, R163: the outcome of the protection test. -/
def State.protectionAnswered (s : State) (level : AccessLevel) (passes : Bool) : State :=
  if passes then
    (s.startStore (.loading .begun) .load).respondHand .started []
  else
    (s.reportViolation ⟨0x31, none, level, .protected_⟩).respondHand .protected_ []

/-! ## Sweeps (chapter 7) -/

/-- R131: the context at the start. -/
def SweepContext.start (filter : SweepFilter) (action : SweepAction) (value : Word16)
    (limit : Nat) (generation : Word32) : SweepContext :=
  ⟨filter, action, value, limit, none, 0, 0, 0, generation⟩

/-- R130: the start checks, in their order, at the status read's outcome; the row range is tested against the geometry g in force when SWEEP was taken (R4 item 4; log entry 32). -/
def State.sweepChecks (s : State) (p : SweepParams) (g : Geometry) :
    Except ResultCode SweepContext :=
  if s.table.state = .loading ∨ s.store.state = .loading then .error .storeBusy
  else if isPersistentSweep p = true ∧ s.store.state ≠ .idle then .error .storeBusy
  else
    match sweepFields p with
    | none => .error .badField
    | some (filter, action, limit) =>
      if g.rows ≤ filter.firstRow ∨ g.rows ≤ filter.lastRow then .error .outOfRange
      else .ok (.start filter action p.actionValue limit s.table.generation)

/-- R135, R137: the sweep ends and its answer is written. -/
def State.endSweep (s : State) (c : SweepContext) (why : StopReason) : State :=
  s.respondHand (if why = .abort then .aborted else .ok) (sweepAnswer c why)

/-- R132: the next step is asked for. -/
def State.askSweepStep (s : State) (c : SweepContext) : State :=
  match s.engine.hand with
  | none => s
  | some job =>
    (s.withEngine { s.engine with hand := some { job with sweep := some ⟨.stepping c, false⟩ } }).askEngine
      (.sweepStep c.position c.filter c.action c.value)

/-- R130, R136: the outcome of the start's status read. -/
def State.sweepStarted (s : State) (p : SweepParams) (g : Geometry) (abortMark : Bool) : State :=
  match s.sweepChecks p g with
  | .error code => s.respondHand code (be32 s.table.generation)
  | .ok c => if abortMark then s.endSweep c .abort else s.askSweepStep c

/-- R132: the position, the counts and the last generation after an outcome. -/
def SweepContext.after (c : SweepContext) (generation : Word32) : SweepOutcome → SweepContext
  | .endOfRange => { c with lastGeneration := generation }
  | .notMatched k | .unchanged k =>
    { c with lastGeneration := generation, position := some k, examined := c.examined + 1 }
  | .changed k =>
    { c with lastGeneration := generation, position := some k, examined := c.examined + 1,
             changed := c.changed + 1 }
  | .skipped k =>
    { c with lastGeneration := generation, position := some k, examined := c.examined + 1,
             skipped := c.skipped + 1 }

/-- R135, R136: why the sweep ends after an outcome, if it does; the abort mark comes first (log entry 19). -/
def SweepContext.stop (c : SweepContext) (abortMark : Bool) (o : SweepOutcome) :
    Option StopReason :=
  if abortMark then some .abort
  else
    match o with
    | .endOfRange => some .endOfRange
    | .changed _ => if c.changed = c.limit then some .limit else none
    | .notMatched _ | .unchanged _ | .skipped _ => none

/-- R132, R135: the engine acts on the outcome of a sweep step. -/
def State.sweepStepped (s : State) (c : SweepContext) (abortMark : Bool) (o : SweepOutcome) :
    State :=
  match (c.after s.table.generation o).stop abortMark o with
  | some why => s.endSweep (c.after s.table.generation o) why
  | none => s.askSweepStep (c.after s.table.generation o)

/-- R22, R130, R182: the engine acts on a status read, for STATUS or for a sweep's start. -/
def State.statusAnswered (s : State) : State :=
  match s.engine.hand with
  | none => s
  | some job =>
    match job.sweep with
    | some ⟨.starting p g, mark⟩ => s.sweepStarted p g mark
    | some ⟨.stepping _, _⟩ => s
    | none => s.respondHand .ok (statusAnswer s)

/-- R176: a parsed request is handed to the engine. -/
def State.startCommand (via : Via) (i : Instr) (s : State) : State :=
  match i with
  | .describe => s.startDescribe
  | .status => s.startTableCommand 0x02 .statusRead
  | .readEvents => s.startReadEvents
  | .setEventMask m => s.startSetEventMask m
  | .readViolation => s.startReadViolation
  | .openService => s.startOpenService
  | .closeService _ => s.startCloseService via
  | .restart _ => s.startRestart via
  | .setGeometry r c => s.startSetGeometry r c
  | .setDrive _ d i => s.startSetDrive via d i
  | .setMonitor _ d h e => s.startSetMonitor via d h e
  | .insert i => s.startTableCommand 0x20 (.insert i)
  | .amend sel i => s.startTableCommand 0x21 (.amend sel i)
  | .retire r c => s.startTableCommand 0x22 (.remove r c)
  | .lookup r c => s.startTableCommand 0x23 (.find r c)
  | .next r c => s.startTableCommand 0x24 (.findFirst r c)
  | .sweep p => s.startSweep p
  | .suspects => s.startSuspects
  | .clearSuspects => s.startClearSuspects
  | .save _ => s.startSave via
  | .load => s.startLoad
  | .hardReset _ | .svcEnChange _ | .frameStart | .heldFrameStart | .pixelLevel _ | .videoTimerExpiry
  | .blankSendOver | .faultReport _ | .requestAccept _ _ | .requestWrite _ _ | .answerRead _ _
  | .abort _ | .findByKey | .findFirstAtOrAfter | .tableInsert | .promotionInsert | .tableAmend
  | .remove | .faultUpdate | .stampProbeFrame | .sweepStep | .healStep | .statusRead
  | .geometryChange | .protectionTest | .beginSave | .saveRead | .endSave | .beginLoad
  | .loadGeometry | .loadInsert | .endLoad | .readStatus _ | .writeEnable | .sectorErase
  | .pageProgram | .readData _ | .flashTimeout => s

/-- R176: a unit write that was taken ends. -/
def State.unitRequest (bytes : List Byte) (s : State) : State :=
  match parseRequest .unit bytes with
  | .malformed => s.portAnswers .malformed
  | .unknown => s.portAnswers .unknown
  | .command i => s.startCommand .unit i

/-- R180: a group write that was taken ends; what is not one of the five commands is discarded unexecuted. -/
def State.groupRequest (bytes : List Byte) (s : State) : State :=
  match parseRequest .group bytes with
  | .malformed | .unknown => s
  | .command i => if takenByGroup (bytes.headD 0) then s.startCommand .group i else s

/-- R175, R176, R179, R180: a write ends at an address of the part. -/
def State.writeEnds (via : Via) (bytes : List Byte) (s : State) : State :=
  match bytes with
  | [] => (s.setWrite .none).bus [.address true]
  | first :: _ =>
    if via = .unit ∧ first = Config.abortByte then s.abortEnds
    else if s.refusesWrite via then s.discardWrite via
    else
      let taken := (s.acceptWrite via).bus
        (s.endItems via (min bytes.length Config.requestBytes))
      match via with
      | .unit => taken.unitRequest bytes
      | .group => taken.groupRequest bytes

end Sys2Proof.Machine
end

