-- ==== Sys2Proof/Machine/Commands.lean ====
section
/-! DEFINITION. The meanings of the service port's transactions and of the commands they carry. -/
namespace Sys2Proof.Machine

/-- R175, R177, R180: the first data byte of a write. -/
def execRequestAccept (address : BitVec 7) (b : Byte) (s : State) :
    Host.Outcome State Fault Refusal :=
  .next
    (match s.addressed address with
      | none => s.quiet.bus [.address false]
      | some .unit => (s.quiet.bus [.address true]).unitFirstByte b
      | some .group => (s.quiet.bus [.address true]).groupFirstByte)

/-- R175, R176, R180: the end of a write. -/
def execRequestWrite (address : BitVec 7) (bytes : List Byte) (s : State) :
    Host.Outcome State Fault Refusal :=
  .next
    (match s.addressed address with
      | none => s.quiet.bus [.address false]
      | some via => s.quiet.writeEnds via bytes)

/-- R175, R178: a read. -/
def execAnswerRead (address : BitVec 7) (count : Nat) (s : State) :
    Host.Outcome State Fault Refusal :=
  .next
    (match s.addressed address with
      | some .unit => s.quiet.readAnswer count
      | some .group | none => s.quiet.bus [.address false])

/-- R179: the further bytes are not acknowledged. -/
def execAbort (_further : Nat) (s : State) : Host.Outcome State Fault Refusal :=
  .next s.quiet.abortEnds

/-- R181. -/
def execDescribe (s : State) : Host.Outcome State Fault Refusal :=
  .next (s.quiet.takeCommand .unit 0x01 State.startDescribe)

/-- R182: STATUS asks for its status read. -/
def execStatus (s : State) : Host.Outcome State Fault Refusal :=
  .next (s.quiet.takeCommand .unit 0x02 (State.startTableCommand 0x02 .statusRead))

/-- R172. -/
def execReadEvents (s : State) : Host.Outcome State Fault Refusal :=
  .next (s.quiet.takeCommand .unit 0x03 State.startReadEvents)

/-- R173. -/
def execSetEventMask (mask : Word16) (s : State) : Host.Outcome State Fault Refusal :=
  .next (s.quiet.takeCommand .unit 0x04 (State.startSetEventMask mask))

/-- R154. -/
def execReadViolation (s : State) : Host.Outcome State Fault Refusal :=
  .next (s.quiet.takeCommand .unit 0x05 State.startReadViolation)

/-- R149. -/
def execOpenService (s : State) : Host.Outcome State Fault Refusal :=
  .next (s.quiet.takeCommand .unit 0x06 State.startOpenService)

/-- R150. -/
def execCloseService (via : Via) (s : State) : Host.Outcome State Fault Refusal :=
  .next (s.quiet.takeCommand via 0x07 (State.startCloseService via))

/-- R3. -/
def execSetGeometry (rowsLessOne colsLessOne : Byte) (s : State) :
    Host.Outcome State Fault Refusal :=
  .next (s.quiet.takeCommand .unit 0x10 (State.startSetGeometry rowsLessOne colsLessOne))

/-- R59. -/
def execSetDrive (via : Via) (driveMax : Word16) (interval : Byte) (s : State) :
    Host.Outcome State Fault Refusal :=
  .next (s.quiet.takeCommand via 0x11 (State.startSetDrive via driveMax interval))

/-- R80. -/
def execSetMonitor (via : Via) (debounce healProbes enable : Byte) (s : State) :
    Host.Outcome State Fault Refusal :=
  .next (s.quiet.takeCommand via 0x12 (State.startSetMonitor via debounce healProbes enable))

/-- R105, R110. -/
def execInsert (image : RecordImage) (s : State) : Host.Outcome State Fault Refusal :=
  .next (s.quiet.takeCommand .unit 0x20 (State.startTableCommand 0x20 (.insert image)))

/-- R105, R113. -/
def execAmend (select : Byte) (image : RecordImage) (s : State) :
    Host.Outcome State Fault Refusal :=
  .next (s.quiet.takeCommand .unit 0x21 (State.startTableCommand 0x21 (.amend select image)))

/-- R105, R119. -/
def execRetire (row col : Byte) (s : State) : Host.Outcome State Fault Refusal :=
  .next (s.quiet.takeCommand .unit 0x22 (State.startTableCommand 0x22 (.remove row col)))

/-- R105, R121. -/
def execLookup (row col : Byte) (s : State) : Host.Outcome State Fault Refusal :=
  .next (s.quiet.takeCommand .unit 0x23 (State.startTableCommand 0x23 (.find row col)))

/-- R105, R123. -/
def execNext (row col : Byte) (s : State) : Host.Outcome State Fault Refusal :=
  .next (s.quiet.takeCommand .unit 0x24 (State.startTableCommand 0x24 (.findFirst row col)))

/-- R130. -/
def execSweep (params : SweepParams) (s : State) : Host.Outcome State Fault Refusal :=
  .next (s.quiet.takeCommand .unit 0x25 (State.startSweep params))

/-- R82. -/
def execSuspects (s : State) : Host.Outcome State Fault Refusal :=
  .next (s.quiet.takeCommand .unit 0x28 State.startSuspects)

/-- R83. -/
def execClearSuspects (s : State) : Host.Outcome State Fault Refusal :=
  .next (s.quiet.takeCommand .unit 0x29 State.startClearSuspects)

/-- R159. -/
def execSave (via : Via) (s : State) : Host.Outcome State Fault Refusal :=
  .next (s.quiet.takeCommand via 0x30 (State.startSave via))

/-- R163. -/
def execLoad (s : State) : Host.Outcome State Fault Refusal :=
  .next (s.quiet.takeCommand .unit 0x31 State.startLoad)

end Sys2Proof.Machine
end

