-- ==== Sys2Proof/Machine/Flash.lean ====
section
/-! DEFINITION. The meanings of the store link's transactions and of a flash timeout (R157). Each ends the operation in hand when it is of the row's kind, and otherwise changes nothing (log entry 25). -/
namespace Sys2Proof.Machine

/-- R157, R160, R161, R164: a status byte read. Bit 0 set: the store polls again. Bit 0 clear: it goes on. -/
def execReadStatus (statusByte : Byte) (s : State) : Host.Outcome State Fault Refusal :=
  .next
    (match s.store.flash with
      | .polling allowance =>
        if statusByte.getLsbD 0 then s.quiet.poll allowance
        else
          match s.store.work with
          | .saving w => (s.quiet.setFlash .none).saveNext w
          | .loading _ => s.quiet.beginRead 0 Config.headerBytes
          | .idle => s.quiet.setFlash .none
      | _ => s.quiet)

/-- R157: write enable has ended, and the command it precedes is sent. -/
def execWriteEnable (s : State) : Host.Outcome State Fault Refusal :=
  .next
    (match s.store.flash with
      | .enabling c => (s.quiet.setFlash (.running c)).flashSend c.send
      | _ => s.quiet)

/-- R160: an erase transaction has ended, and the store polls within 400 ms. -/
def execSectorErase (s : State) : Host.Outcome State Fault Refusal :=
  .next
    (match s.store.flash, s.store.work with
      | .running (.erase a), .saving w =>
        (s.quiet.setWork (.saving (w.afterArray (.erase a)))).poll Config.eraseAllowance
      | _, _ => s.quiet)

/-- R161: a program transaction has ended, and the store polls within 5 ms. -/
def execPageProgram (s : State) : Host.Outcome State Fault Refusal :=
  .next
    (match s.store.flash, s.store.work with
      | .running (.program a bytes), .saving w =>
        (s.quiet.setWork (.saving (w.afterArray (.program a bytes)))).poll Config.programAllowance
      | _, _ => s.quiet)

/-- R164, R165: a read data transfer has ended with as many bytes as were asked for. -/
def execReadData (bytes : List Byte) (s : State) : Host.Outcome State Fault Refusal :=
  .next
    (match s.store.flash, s.store.work with
      | .reading _ length, .loading w =>
        if bytes.length = length then
          match w.header with
          | none => s.quiet.headerRead w bytes
          | some _ => s.quiet.slotRead w bytes
        else s.quiet
      | _, _ => s.quiet)

/-- R157, R162, R166: the allowance runs out. -/
def execFlashTimeout (s : State) : Host.Outcome State Fault Refusal :=
  .next
    (match s.store.flash, s.store.work with
      | .polling _, .saving w =>
        (s.quiet.setWork (.saving { w with faulted := true })).storeAsks .endSave
      | .polling _, .loading _ => s.quiet.failLoad
      | _, _ => s.quiet)

end Sys2Proof.Machine
end

