-- ==== Sys2Proof/Machine/Grants.lean ====
section
/-! DEFINITION. The meanings of the table operations' completions. Each completes the operation in progress when it is of the row's kind, and otherwise changes nothing (log entry 2). -/
namespace Sys2Proof.Machine

/-- R21, R48, R70, R121: a find by key of the walker, the engine or the monitor. -/
def execFindByKey (s : State) : Host.Outcome State Fault Refusal :=
  .next
    (match s.arbiter.walkerOp, s.arbiter.engineOp, s.arbiter.monitorOp with
      | some (.find key), _, _ =>
        (s.quiet.complete .walker s.table).emitterFound (s.table.walkerFind key)
      | _, some (.find row col), _ =>
        (s.quiet.complete .engine s.table).answerEdit .ok (s.table.lookup row col)
      | _, _, some (.find key) =>
        (s.quiet.complete .monitor s.table).suspectChecked (s.table.monitorFind key)
      | _, _, _ => s.quiet)

/-- R21, R123, R124. -/
def execFindFirstAtOrAfter (s : State) : Host.Outcome State Fault Refusal :=
  .next
    (match s.arbiter.engineOp with
      | some (.findFirst row col) =>
        (s.quiet.complete .engine s.table).answerEdit .endOfTable (s.table.next row col)
      | _ => s.quiet)

/-- R110, R111. -/
def execTableInsert (s : State) : Host.Outcome State Fault Refusal :=
  .next
    (match s.arbiter.engineOp with
      | some (.insert image) =>
        (s.quiet.complete .engine (s.table.insert s.arbiter.levelAtGrant image).1).answerGuarded
          0x20 (keyOf image.row image.col) s.arbiter.levelAtGrant
          (s.table.insert s.arbiter.levelAtGrant image).2
      | _ => s.quiet)

/-- R23, R76. -/
def execPromotionInsert (s : State) : Host.Outcome State Fault Refusal :=
  .next
    (match s.arbiter.monitorOp with
      | some (.promote key c k f) =>
        (s.quiet.complete .monitor (s.table.promote key c k f).1).promotionAnswered key c
          (s.table.promote key c k f).2
      | _ => s.quiet)

/-- R24, R114 to R117. -/
def execTableAmend (s : State) : Host.Outcome State Fault Refusal :=
  .next
    (match s.arbiter.engineOp with
      | some (.amend select image) =>
        (s.quiet.complete .engine
          (s.table.amend s.arbiter.levelAtGrant select image).1).answerGuarded
          0x21 (keyOf image.row image.col) s.arbiter.levelAtGrant
          (s.table.amend s.arbiter.levelAtGrant select image).2
      | _ => s.quiet)

/-- R25, R119. -/
def execRemove (s : State) : Host.Outcome State Fault Refusal :=
  .next
    (match s.arbiter.engineOp with
      | some (.remove row col) =>
        (s.quiet.complete .engine (s.table.remove s.arbiter.levelAtGrant row col).1).answerGuarded
          0x22 (keyOf row col) s.arbiter.levelAtGrant
          (s.table.remove s.arbiter.levelAtGrant row col).2
      | _ => s.quiet)

/-- R26, R72. -/
def execFaultUpdate (s : State) : Host.Outcome State Fault Refusal :=
  .next
    (match s.arbiter.monitorOp with
      | some (.faultUpdate key c k f) =>
        (s.quiet.complete .monitor (s.table.faultUpdate key c k f).1).faultUpdated key c k f
          (s.table.faultUpdate key c k f).2
      | _ => s.quiet)

/-- R27, R49. -/
def execStampProbeFrame (s : State) : Host.Outcome State Fault Refusal :=
  .next
    (match s.arbiter.walkerOp with
      | some (.stamp key f cs) => (s.quiet.complete .walker (s.table.stamp key f cs)).emitterStamped
      | _ => s.quiet)

/-- R28, R132. -/
def execSweepStep (s : State) : Host.Outcome State Fault Refusal :=
  .next
    (match s.arbiter.engineOp, s.engine.hand.bind Job.sweep with
      | some (.sweepStep position filter action value), some ⟨.stepping c, mark⟩ =>
        (s.quiet.complete .engine
          (s.table.sweepStep s.arbiter.levelAtGrant position filter action value).1).sweepStepped
          c mark (s.table.sweepStep s.arbiter.levelAtGrant position filter action value).2
      | _, _ => s.quiet)

/-- R29, R92. -/
def execHealStep (s : State) : Host.Outcome State Fault Refusal :=
  .next
    (match s.arbiter.monitorOp with
      | some (.heal position f n) =>
        (s.quiet.complete .monitor (s.table.healStep position f n).1).healStepped
          (s.table.healStep position f n).2
      | _ => s.quiet)

/-- R22, R130, R182. -/
def execStatusRead (s : State) : Host.Outcome State Fault Refusal :=
  .next
    (match s.arbiter.engineOp with
      | some .statusRead => (s.quiet.complete .engine s.table).statusAnswered
      | _ => s.quiet)

/-- R3. -/
def execGeometryChange (s : State) : Host.Outcome State Fault Refusal :=
  .next
    (match s.arbiter.engineOp with
      | some (.geometryChange g) =>
        (s.quiet.complete .engine (s.table.changeGeometry g).1).geometryAnswered s.table.geometry g
          (s.table.changeGeometry g).2
      | _ => s.quiet)

/-- R146, R163. -/
def execProtectionTest (s : State) : Host.Outcome State Fault Refusal :=
  .next
    (match s.arbiter.engineOp with
      | some .protectionTest =>
        (s.quiet.complete .engine s.table).protectionAnswered s.arbiter.levelAtGrant
          (s.table.protectionPasses s.arbiter.levelAtGrant)
      | _ => s.quiet)

/-- R30, R160: begin save, asked for here if it has yet to be (log entry 29). When it is granted, the save hold is set, and the store takes the header's values and waits for the flash. -/
def execBeginSave (s : State) : Host.Outcome State Fault Refusal :=
  let asked := s.quiet.askBegin .save
  .next
    (match asked.arbiter.storeOp, asked.store.work with
      | some .beginSave, .saving w =>
        ((asked.complete .store (s.table.hold true)).setWork (.saving { w with
          header := some s.saveHeader
          crc := crcOver crcStart (headerFields s.saveHeader) })).poll Config.idleAllowance
      | _, _ => asked)

/-- R31, R161. -/
def execSaveRead (s : State) : Host.Outcome State Fault Refusal :=
  .next
    (match s.arbiter.storeOp, s.store.work with
      | some (.saveRead position), .saving w =>
        let read := w.afterRead (s.table.saveRead position)
        ((s.quiet.complete .store s.table).setWork (.saving read)).saveNext read
      | _, _ => s.quiet)

/-- R30, R161, R162: end save. -/
def execEndSave (s : State) : Host.Outcome State Fault Refusal :=
  .next
    (match s.arbiter.storeOp with
      | some .endSave => (s.quiet.complete .store (s.table.hold false)).afterEndSave
      | _ => s.quiet)

/-- R30, R164 steps 1 and 2: begin load, asked for here if it has yet to be (log entry 29). -/
def execBeginLoad (s : State) : Host.Outcome State Fault Refusal :=
  let asked := s.quiet.askBegin .load
  .next
    (match asked.arbiter.storeOp with
      | some .beginLoad => (asked.complete .store s.table.beginLoad).askOfMonitor .loadStart
      | _ => asked)

/-- R30, R164 step 6, R165. -/
def execLoadGeometry (s : State) : Host.Outcome State Fault Refusal :=
  .next
    (match s.arbiter.storeOp, s.store.work with
      | some (.loadGeometry g), .loading ⟨some h, hc, c, n, k, e⟩ =>
        (s.quiet.complete .store (s.table.loadGeometry g)).loadNext ⟨some h, hc, c, n, k, e⟩ h
      | _, _ => s.quiet)

/-- R32, R165. -/
def execLoadInsert (s : State) : Host.Outcome State Fault Refusal :=
  .next
    (match s.arbiter.storeOp, s.store.work with
      | some (.loadInsert p), .loading ⟨some h, hc, c, n, _, e⟩ =>
        let inserted := s.quiet.complete .store (s.table.loadInsert p).1
        if (s.table.loadInsert p).2 then
          (inserted.setWork (.loading ⟨some h, hc, c, n + 1, some p.key, e⟩)).loadNext
            ⟨some h, hc, c, n + 1, some p.key, e⟩ h
        else inserted.failLoad
      | _, _ => s.quiet)

/-- R59, R166, R167: a load that ended well writes the header's settings as the walker's again, over a SET_DRIVE taken since `State.succeedLoad` (log entry 35), and sends load end with the monitor's. -/
def State.loadSucceeds (s : State) (w : LoadWork) (h : Header) : State :=
  ((s.setDrive h.driveMax h.probeInterval).setWork
    (.loading { w with ended := some true })).askOfMonitor
      (.loadEnd h.debounce h.healProbes h.enable)

/-- R60, R166: a load that failed writes the walker's defaults and sends load end with the monitor's. -/
def State.loadFails (s : State) (w : LoadWork) : State :=
  ((s.setDrive Config.greatestDriveMax .every64).setWork
    (.loading { w with ended := some false })).askOfMonitor
      (.loadEnd Config.resetDebounce Config.resetHealProbes true)

/-- R30, R166: end load. -/
def execEndLoad (s : State) : Host.Outcome State Fault Refusal :=
  .next
    (match s.arbiter.storeOp, s.store.work with
      | some (.endLoadSuccess generation), .loading ⟨some h, hc, c, n, k, e⟩ =>
        (s.quiet.complete .store (s.table.endLoadSuccess generation)).loadSucceeds
          ⟨some h, hc, c, n, k, e⟩ h
      | some .endLoadFailure, .loading w =>
        (s.quiet.complete .store s.table.endLoadFailure).loadFails w
      | _, _ => s.quiet)

end Sys2Proof.Machine
end

