-- ==== Sys2Proof/Machine/Resets.lean ====
section
/-! DEFINITION. The meanings of HARD_RESET, SVC_EN_CHANGE and RESTART. -/
namespace Sys2Proof.Machine

/-- R39, R41, R61, R86, R142, R155, R156, R167, R168, R174, R177. -/
def execHardReset (autoload : Bool) (s : State) : Host.Outcome State Fault Refusal :=
  .next (.afterHardReset autoload s.pins s.pending)

/-- R148: the pin as seen, and the level it forces. -/
def State.svcEnChanges (s : State) (asserted : Bool) : State :=
  let seen := s.withPins { s.pins with svcEn := asserted }
  if asserted = false ∧ s.access.level = .service then
    (seen.withAccess { s.access with level := .operator }).raise .serviceClosed
  else seen

/-- R148. -/
def execSvcEnChange (asserted : Bool) (s : State) : Host.Outcome State Fault Refusal :=
  .next (s.quiet.svcEnChanges asserted)

/-- R183. -/
def execRestart (via : Via) (s : State) : Host.Outcome State Fault Refusal :=
  .next (s.quiet.takeCommand via 0x08 (State.startRestart via))

end Sys2Proof.Machine
end

