-- ==== Sys2Proof/Machine/Video.lean ====
section
/-! DEFINITION. The meanings of the pixel input, video timer, drive link and fault return commands. -/
namespace Sys2Proof.Machine

/-- R45, R53, R54. -/
def execFrameStart (s : State) : Host.Outcome State Fault Refusal :=
  .next s.quiet.frameStartArrives

/-- R53. -/
def execHeldFrameStart (s : State) : Host.Outcome State Fault Refusal :=
  .next s.quiet.takeHeldFrameStart

/-- R44, R48. -/
def execPixelLevel (level : Level) (s : State) : Host.Outcome State Fault Refusal :=
  .next (s.quiet.levelArrives level)

/-- R53, R55, R56. -/
def execVideoTimerExpiry (s : State) : Host.Outcome State Fault Refusal :=
  .next s.quiet.timerExpires

/-- R57. -/
def execBlankSendOver (s : State) : Host.Outcome State Fault Refusal :=
  .next s.quiet.blankSent

/-- R64, R67, R70. -/
def execFaultReport (report : Report) (s : State) : Host.Outcome State Fault Refusal :=
  .next (s.quiet.reportArrives report)

end Sys2Proof.Machine
end

