-- ==== Sys2Proof/Machine/Dispatch.lean ====
section
/-! DEFINITION. One arm per command: its meaning. -/
namespace Sys2Proof.Machine

/-- A command's effect on everything but the queue. -/
def exec (i : Instr) (s : State) : Host.Outcome State Fault Refusal :=
  match i with
  | .hardReset autoload => Sys2Proof.Machine.execHardReset autoload s
  | .svcEnChange asserted => Sys2Proof.Machine.execSvcEnChange asserted s
  | .frameStart => Sys2Proof.Machine.execFrameStart s
  | .heldFrameStart => Sys2Proof.Machine.execHeldFrameStart s
  | .pixelLevel level => Sys2Proof.Machine.execPixelLevel level s
  | .videoTimerExpiry => Sys2Proof.Machine.execVideoTimerExpiry s
  | .blankSendOver => Sys2Proof.Machine.execBlankSendOver s
  | .faultReport report => Sys2Proof.Machine.execFaultReport report s
  | .requestAccept address byte => Sys2Proof.Machine.execRequestAccept address byte s
  | .requestWrite address bytes => Sys2Proof.Machine.execRequestWrite address bytes s
  | .answerRead address count => Sys2Proof.Machine.execAnswerRead address count s
  | .abort further => Sys2Proof.Machine.execAbort further s
  | .describe => Sys2Proof.Machine.execDescribe s
  | .status => Sys2Proof.Machine.execStatus s
  | .readEvents => Sys2Proof.Machine.execReadEvents s
  | .setEventMask mask => Sys2Proof.Machine.execSetEventMask mask s
  | .readViolation => Sys2Proof.Machine.execReadViolation s
  | .openService => Sys2Proof.Machine.execOpenService s
  | .closeService via => Sys2Proof.Machine.execCloseService via s
  | .restart via => Sys2Proof.Machine.execRestart via s
  | .setGeometry rowsLessOne colsLessOne => Sys2Proof.Machine.execSetGeometry rowsLessOne colsLessOne s
  | .setDrive via driveMax interval => Sys2Proof.Machine.execSetDrive via driveMax interval s
  | .setMonitor via debounce healProbes enable => Sys2Proof.Machine.execSetMonitor via debounce healProbes enable s
  | .insert image => Sys2Proof.Machine.execInsert image s
  | .amend select image => Sys2Proof.Machine.execAmend select image s
  | .retire row col => Sys2Proof.Machine.execRetire row col s
  | .lookup row col => Sys2Proof.Machine.execLookup row col s
  | .next row col => Sys2Proof.Machine.execNext row col s
  | .sweep params => Sys2Proof.Machine.execSweep params s
  | .suspects => Sys2Proof.Machine.execSuspects s
  | .clearSuspects => Sys2Proof.Machine.execClearSuspects s
  | .save via => Sys2Proof.Machine.execSave via s
  | .load => Sys2Proof.Machine.execLoad s
  | .findByKey => Sys2Proof.Machine.execFindByKey s
  | .findFirstAtOrAfter => Sys2Proof.Machine.execFindFirstAtOrAfter s
  | .tableInsert => Sys2Proof.Machine.execTableInsert s
  | .promotionInsert => Sys2Proof.Machine.execPromotionInsert s
  | .tableAmend => Sys2Proof.Machine.execTableAmend s
  | .remove => Sys2Proof.Machine.execRemove s
  | .faultUpdate => Sys2Proof.Machine.execFaultUpdate s
  | .stampProbeFrame => Sys2Proof.Machine.execStampProbeFrame s
  | .sweepStep => Sys2Proof.Machine.execSweepStep s
  | .healStep => Sys2Proof.Machine.execHealStep s
  | .statusRead => Sys2Proof.Machine.execStatusRead s
  | .geometryChange => Sys2Proof.Machine.execGeometryChange s
  | .protectionTest => Sys2Proof.Machine.execProtectionTest s
  | .beginSave => Sys2Proof.Machine.execBeginSave s
  | .saveRead => Sys2Proof.Machine.execSaveRead s
  | .endSave => Sys2Proof.Machine.execEndSave s
  | .beginLoad => Sys2Proof.Machine.execBeginLoad s
  | .loadGeometry => Sys2Proof.Machine.execLoadGeometry s
  | .loadInsert => Sys2Proof.Machine.execLoadInsert s
  | .endLoad => Sys2Proof.Machine.execEndLoad s
  | .readStatus statusByte => Sys2Proof.Machine.execReadStatus statusByte s
  | .writeEnable => Sys2Proof.Machine.execWriteEnable s
  | .sectorErase => Sys2Proof.Machine.execSectorErase s
  | .pageProgram => Sys2Proof.Machine.execPageProgram s
  | .readData bytes => Sys2Proof.Machine.execReadData bytes s
  | .flashTimeout => Sys2Proof.Machine.execFlashTimeout s

end Sys2Proof.Machine
end

