-- ==== Sys2Proof/Safety.lean ====
section
/-! DEFINITION. What a safe run is, and the words in which the statements speak of a step: which blocks it leaves, the laws of the table and of the other blocks. -/
namespace Sys2Proof

/-- A step neither faults nor refuses. -/
def goesOn (s : Machine.State) : Prop := ∃ t, Machine.step s = .next t

end Sys2Proof

namespace Sys2Proof.Machine

/-! ## What a command leaves -/

/-- The blocks of the part, with the pins. -/
inductive Block where
  | table | arbiter | walker | monitor | engine | access | store | events | pins
  deriving DecidableEq, Repr

/-- A block is as it was. -/
def Block.kept : Block → State → State → Prop
  | .table, s, t => t.table = s.table
  | .arbiter, s, t => t.arbiter = s.arbiter
  | .walker, s, t => t.walker = s.walker
  | .monitor, s, t => t.monitor = s.monitor
  | .engine, s, t => t.engine = s.engine
  | .access, s, t => t.access = s.access
  | .store, s, t => t.store = s.store
  | .events, s, t => t.events = s.events
  | .pins, s, t => t.pins = s.pins

/-- Every block but those listed is as it was, and so is the queue. -/
def UnchangedBut (bs : List Block) (s t : State) : Prop :=
  (∀ b, b ∉ bs → b.kept s t) ∧ t.pending = s.pending

/-- A command out of turn leaves the state as it was, with nothing put out. -/
def NothingHappens (c : Instr) (s : State) : Prop := exec c s = .next (s.withOut ⟨[], [], []⟩)

/-- The records of all other keys are as they were. -/
def OthersKept (k : Key) (t t' : Table) : Prop :=
  ∀ k', k' ≠ k → findKey k' t'.records = findKey k' t.records

/-- The generation number, the table state, the save hold and the geometry are as they were. -/
def SettingsKept (t t' : Table) : Prop :=
  t'.generation = t.generation ∧ t'.state = t.state ∧ t'.saveHold = t.saveHold ∧
    t'.geometry = t.geometry

/-- As SettingsKept, but for the generation number, which has advanced by one. -/
def GenerationAdvanced (t t' : Table) : Prop :=
  t'.generation = t.generation + 1 ∧ t'.state = t.state ∧ t'.saveHold = t.saveHold ∧
    t'.geometry = t.geometry

/-! ## Laws of the blocks -/

/-- R17: keys in raster order, no two equal, at most 512 records, every key inside the geometry. -/
def Table.lawful (t : Table) : Prop :=
  t.records.Pairwise (fun a b => a.pers.key.before b.pers.key) ∧
    t.records.length ≤ Config.tableCapacity ∧ ∀ r ∈ t.records, t.geometry.contains r.pers.key

/-- R7, R8: every action's value is in range for its mode, and the auto-marker laws hold. -/
def Persistent.valid (p : Persistent) : Bool :=
  (colours.all fun c => (p.action c).mode.admits (p.action c).value) && p.markersLawful

/-- R7, R8 of every record, and of a record that a load is about to insert. -/
def RecordsValid (s : State) : Prop :=
  (∀ r ∈ s.table.records, r.pers.valid = true) ∧
    ∀ p, s.arbiter.store = some (.loadInsert p) → p.valid = true

/-- R69: at most 16 suspects, no two of one channel, counts of 1 to 32. -/
def Monitor.suspectsLawful (m : Monitor) : Prop :=
  m.suspects.length ≤ Config.suspectCapacity ∧
    m.suspects.Pairwise (fun a b => ¬ (a.key = b.key ∧ a.colour = b.colour)) ∧
    ∀ e ∈ m.suspects, 1 ≤ e.count ∧ e.count ≤ Config.greatestSuspectCount

/-- R147, R152: SERVICE only while SVC_EN is asserted; the further-count zero without a violation record, and at most 255. -/
def State.accessLawful (s : State) : Prop :=
  (s.access.level = .service → s.pins.svcEn = true) ∧
    (s.access.violation = none → s.access.furtherCount = 0) ∧ s.access.furtherCount ≤ 255

/-- R20: while nobody's operation is in progress nobody waits, and the client whose operation is in progress asks for one. -/
def Arbiter.lawful (a : Arbiter) : Prop :=
  match a.inProgress with
  | none => ∀ c, a.asks c = false
  | some c => a.asks c = true

/-- R68: a monitor that is IDLE or OFF keeps no request waiting. -/
def Monitor.nothingOverdue (m : Monitor) : Prop := m.atRest = true → m.waiting = []

/-- R2: 1 to 128 rows and 1 to 256 columns. -/
def Geometry.lawful (g : Geometry) : Prop :=
  (1 ≤ g.rows ∧ g.rows ≤ Config.maxRows) ∧ 1 ≤ g.cols ∧ g.cols ≤ Config.maxCols

/-- R42, R65: the ranges of DRIVE_MAX, DEBOUNCE and HEAL_PROBES. -/
def driveMaxLawful (n : Nat) : Prop := Config.leastDriveMax ≤ n ∧ n ≤ Config.greatestDriveMax

def monitorSettingsLawful (debounce healProbes : Nat) : Prop :=
  (Config.leastDebounce ≤ debounce ∧ debounce ≤ Config.greatestDebounce) ∧
    Config.leastHealProbes ≤ healProbes ∧ healProbes ≤ Config.greatestHealProbes

/-- R158, R164: the settings of an accepted header. -/
def Header.lawful (h : Header) : Prop :=
  h.geometry.lawful ∧ driveMaxLawful h.driveMax ∧ monitorSettingsLawful h.debounce h.healProbes

/-- R68: the settings that a waiting request carries. -/
def MonitorAsk.lawful : MonitorAsk → Prop
  | .loadEnd d h _ | .setMonitor _ d h _ => monitorSettingsLawful d h
  | .emptyList | .loadStart | .suspects | .clearSuspects => True

/-- R2, R42, R45, R65, R70: the settings in force, those latched, and those that a request or a header carries are in their ranges, and the applied counts are at most 512 (log entry 30). -/
def State.settingsLawful (s : State) : Prop :=
  (s.table.geometry.lawful ∧ driveMaxLawful s.walker.driveMax ∧
    monitorSettingsLawful s.monitor.debounce s.monitor.healProbes) ∧
  (s.walker.latches.geometry.lawful ∧ driveMaxLawful s.walker.latches.driveMax ∧
    monitorSettingsLawful s.monitor.latchedDebounce s.monitor.latchedHealProbes) ∧
  (∀ g, s.arbiter.engine = some (.geometryChange g) → g.lawful) ∧
  (∀ g, s.arbiter.store = some (.loadGeometry g) → g.lawful) ∧
  (∀ w h, s.store.work = .loading w → w.header = some h → h.lawful) ∧
  (∀ a ∈ s.monitor.waiting, a.lawful) ∧
  s.walker.running ≤ Config.greatestAppliedCount ∧
  s.walker.appliedCount ≤ Config.greatestAppliedCount

/-! ## Operations -/

/-- R20: a client's operation is complete and the next has been granted. -/
def Completed (s : State) (c : Client) (t : State) : Prop :=
  t.arbiter = (s.arbiter.released c).granted s.access.level

/-! ## Frames -/

/-- R45, R46: a frame has begun with the settings of s; R44, R48: the levels that had waited for it, up to the frame's last, are then taken in their order, and with three the walker asks for its first find (log entry 10). -/
def FrameBegun (s t : State) : Prop :=
  t.walker.state = .walking ∧ t.walker.frameNumber = s.walker.frameNumber + 1 ∧
  t.walker.latches.geometry = s.table.geometry ∧
  t.walker.latches.driveMax = s.walker.driveMax ∧
  t.walker.latches.probeInterval = s.walker.probeInterval ∧
  (t.walker.latches.probeFrame = true ↔ s.walker.probeInterval.frames ≠ 0 ∧
    (s.walker.frameNumber + 1).toNat % s.walker.probeInterval.frames = 0) ∧
  t.walker.position = ⟨0, 0⟩ ∧ t.walker.running = 0 ∧ t.walker.timer = .running ∧
  t.walker.blankSend = none ∧ t.walker.held = false ∧ t.walker.heldLevels = [] ∧
  t.walker.heldExpiry = false ∧ t.walker.ending = none ∧
  t.walker.driveMax = s.walker.driveMax ∧ t.walker.probeInterval = s.walker.probeInterval ∧
  t.walker.lastCompleted = s.walker.lastCompleted ∧
  t.walker.appliedCount = s.walker.appliedCount ∧
  t.walker.levels =
    s.walker.heldLevels.take (3 * (s.table.geometry.rows * s.table.geometry.cols)) ∧
  t.walker.arrived = t.walker.levels.length ∧
  (s.arbiter.walker = none ∧ 3 ≤ t.walker.levels.length →
    t.arbiter = { s.arbiter with walker := some (.find ⟨0, 0⟩) }.granted s.access.level) ∧
  (¬ (s.arbiter.walker = none ∧ 3 ≤ t.walker.levels.length) → t.arbiter = s.arbiter)

/-- R56: video has been lost, as far as the walker goes. -/
def VideoLost (s t : State) : Prop :=
  t.walker = { s.walker with
    state := .blank, timer := .stopped, running := 0, levels := [], arrived := 0
    heldExpiry := false, ending := none, blankSend := some s.table.geometry } ∧
  t.events = s.events.raise .videoLost ∧ t.out.drive = [.startMark]

/-- R84: a request to empty the suspect list is taken at once by a monitor at rest, and waits otherwise. -/
def SuspectsCleared (s t : State) : Prop :=
  (s.monitor.atRest = true → t.monitor = { s.monitor with suspects := [] }) ∧
  (s.monitor.atRest = false →
    t.monitor = { s.monitor with waiting := s.monitor.waiting ++ [.emptyList] })

/-- R52: the frame of s is complete with an applied count, after the codes of its last emitter if they were sent in this step; R53: a timer expiry held alone is then taken (log entry 8). -/
def FrameCompleted (s : State) (applied : Nat) (codes : List DriveItem) (t : State) : Prop :=
  (s.walker.heldExpiry = false ∨ s.walker.held = true →
    t.walker = { s.walker with
      state := .waiting, lastCompleted := some s.walker.frameNumber
      appliedCount := applied, running := applied, levels := [] } ∧
    t.out.drive = codes ++ [.latch s.walker.frameNumber true] ∧
    UnchangedBut [.table, .walker, .arbiter] s t) ∧
  (s.walker.heldExpiry = true → s.walker.held = false → s.monitor.nothingOverdue →
    t.walker = { s.walker with
      state := .blank, lastCompleted := some s.walker.frameNumber
      appliedCount := applied, running := 0, timer := .stopped, levels := [], arrived := 0
      heldExpiry := false, ending := none, blankSend := some s.table.geometry } ∧
    t.out.drive = codes ++ [.latch s.walker.frameNumber true, .startMark] ∧
    t.events = s.events.raise .videoLost ∧ SuspectsCleared s t ∧
    UnchangedBut [.table, .walker, .arbiter, .monitor, .events] s t)

/-! ## Reports -/

/-- The entry before place n of a report. -/
def placeBefore (es : List ReportEntry) (n : Nat) : Option ReportEntry :=
  if n = 0 then none else es[n - 1]?

/-- R71: the entry at place n is handled, as a fault of a kind on a key and colour. -/
def CountedAt (g : Geometry) (es : List ReportEntry) (n : Nat) (x : Key × Colour × FaultKind) :
    Prop :=
  ∃ e, es[n]? = some e ∧ countedEntry g (placeBefore es n) e = some x

/-- R71: the entry at place n is ignored. -/
def IgnoredAt (g : Geometry) (es : List ReportEntry) (n : Nat) : Prop :=
  ∃ e, es[n]? = some e ∧ countedEntry g (placeBefore es n) e = none

/-- R71, R78: a monitor with r in hand and no request waiting goes on from its entry position: ignored entries are passed, the first other one asks for its fault update, and after the last a complete report removes unseen suspects and begins its heal pass, while a truncated one, with no report buffered, ends. -/
def EntriesGoOn (r : Report) (u t : State) : Prop :=
  (∀ n k c kind, u.monitor.entryPosition ≤ n →
    CountedAt u.table.geometry r.entries n (k, c, kind) →
    (∀ m, u.monitor.entryPosition ≤ m → m < n → IgnoredAt u.table.geometry r.entries m) →
    t.monitor = { u.monitor with entryPosition := n } ∧
    t.arbiter.monitor = some (.faultUpdate k c kind r.frame) ∧
    UnchangedBut [.monitor, .arbiter] u t) ∧
  ((∀ m, u.monitor.entryPosition ≤ m → m < r.entries.length →
      IgnoredAt u.table.geometry r.entries m) →
    (r.truncated = false →
      t.monitor = { u.monitor with
        entryPosition := max u.monitor.entryPosition r.entries.length
        suspects := u.monitor.suspects.filter (fun x => x.lastFrame = r.frame)
        state := .healing, healPosition := none } ∧
      t.arbiter.monitor = some (.heal none r.frame u.monitor.latchedHealProbes) ∧
      UnchangedBut [.monitor, .arbiter] u t) ∧
    (r.truncated = true → u.monitor.buffer = none →
      t.monitor = { u.monitor with
        entryPosition := max u.monitor.entryPosition r.entries.length
        state := .idle, inHand := none, healPosition := none } ∧
      UnchangedBut [.monitor] u t))

/-- R79 case 1: the report in hand and the buffered one are discarded and the monitor is IDLE, before its step point. -/
def ReportDropped (s u : State) : Prop :=
  u.monitor = { s.monitor with
    state := .idle, inHand := none, buffer := none, entryPosition := 0, checkPosition := 0
    healPosition := none } ∧
  Completed s .monitor u ∧ UnchangedBut [.monitor, .arbiter] s u

/-! ## Loads -/

/-- R60, R165, R166: with slots left the next is read; with none left the CRC decides: a match writes the header's settings as the walker's and asks for end load with success, a mismatch asks for end load with failure. -/
def LoadGoesOn (s : State) (w : LoadWork) (h : Header) (t : State) : Prop :=
  (w.slots < h.count → t.store.flash = .reading (256 + 16 * w.slots) 16 ∧
    t.out.flash = [⟨0x03 :: flashAddress (256 + 16 * w.slots), 16⟩] ∧ t.arbiter.store = none ∧
    t.walker = s.walker) ∧
  (h.count ≤ w.slots → t.store.flash = .none ∧ t.out.flash = [] ∧
    (w.crc = w.headerCrc → t.arbiter.store = some (.endLoadSuccess h.generation) ∧
      t.walker = { s.walker with driveMax := h.driveMax, probeInterval := h.probeInterval }) ∧
    (w.crc ≠ w.headerCrc → t.arbiter.store = some .endLoadFailure ∧ t.walker = s.walker))

/-! ## Answers -/

/-- R177, R180: at the unit address the answer stands in the buffer; at the group address the buffer keeps what it held. Either way the engine is IDLE and no write is being received. -/
def Answered (s : State) (via : Via) (code : ResultCode) (data : List Byte) (t : State) : Prop :=
  t.engine = ⟨none,
    (match via with
      | .unit => some ⟨code, data⟩
      | .group => s.engine.answer), .none⟩

/-- R177: the unit command in hand is finished and its answer stands in the buffer. -/
def HandAnswered (s : State) (code : ResultCode) (data : List Byte) (t : State) : Prop :=
  t.engine = ⟨none, some ⟨code, data⟩, s.engine.write⟩

/-- R153: a refused protected operation is recorded: the first makes the violation record and raises VIOLATION, a later one only adds to the further-count. -/
def ViolationRecorded (before : Access) (events : Events) (v : Violation) (t : State) : Prop :=
  match before.violation with
  | none => t.access = { before with violation := some v } ∧ t.events = events.raise .violation
  | some _ =>
    t.access = { before with furtherCount := min (before.furtherCount + 1) 255 } ∧
      t.events = events

/-- R177: the engine is EXECUTING a command of a code, and the answer buffer is as the write's acceptance left it. -/
def Executing (s : State) (via : Via) (code : Byte) (t : State) : Prop :=
  t.engine = ⟨some ⟨code, via, none⟩, (s.acceptWrite via).engine.answer, .none⟩

end Sys2Proof.Machine
end

