-- ==== Sys2Proof/Certificates/Slice0/Obligations.lean ====
section
/-! DEFINITION. The statements about the model. An acceptance in the step of the command itself, `acceptWrite`, is log entry 11; an operation in progress, log entry 2. -/
open Sys2Proof Sys2Proof.Machine

/-! ## Steps -/

/-- The command at the front of the queue runs on the state with the queue's rest. -/
def Obligations.StepRunsTheFrontCommand : Prop :=
  ∀ (c : Instr) (rest : List Instr) (s : State), s.pending = c :: rest →
    step s = exec c (s.withPending rest)

/-- The model's choices: no command stops the part (log entry 23), none touches the queue, on an empty queue the block idles (log entry 1), and the row of a table operation that is not in progress changes nothing, nor is one asked for by BEGIN_SAVE or BEGIN_LOAD that is not due (log entries 2 and 29). -/
def Obligations.EveryStepGoesOn : Prop :=
  (∀ (c : Instr) (s : State), ∃ t, exec c s = .next t ∧ t.pending = s.pending) ∧
  (∀ s : State, s.pending = [] → step s = .next s) ∧ (∀ s : State, goesOn s) ∧
  ∀ s : State,
    ((∀ k, s.arbiter.walkerOp ≠ some (.find k)) → (∀ r q, s.arbiter.engineOp ≠ some (.find r q)) →
      (∀ k, s.arbiter.monitorOp ≠ some (.find k)) → NothingHappens .findByKey s) ∧
    ((∀ k f cs, s.arbiter.walkerOp ≠ some (.stamp k f cs)) → NothingHappens .stampProbeFrame s) ∧
    ((∀ r q, s.arbiter.engineOp ≠ some (.findFirst r q)) → NothingHappens .findFirstAtOrAfter s) ∧
    ((∀ i, s.arbiter.engineOp ≠ some (.insert i)) → NothingHappens .tableInsert s) ∧
    ((∀ x i, s.arbiter.engineOp ≠ some (.amend x i)) → NothingHappens .tableAmend s) ∧
    ((∀ r q, s.arbiter.engineOp ≠ some (.remove r q)) → NothingHappens .remove s) ∧
    ((∀ p f a v, s.arbiter.engineOp ≠ some (.sweepStep p f a v)) → NothingHappens .sweepStep s) ∧
    (s.arbiter.engineOp ≠ some .statusRead → NothingHappens .statusRead s) ∧
    ((∀ g, s.arbiter.engineOp ≠ some (.geometryChange g)) → NothingHappens .geometryChange s) ∧
    (s.arbiter.engineOp ≠ some .protectionTest → NothingHappens .protectionTest s) ∧
    ((∀ k c kind f, s.arbiter.monitorOp ≠ some (.promote k c kind f)) →
      NothingHappens .promotionInsert s) ∧
    ((∀ k c kind f, s.arbiter.monitorOp ≠ some (.faultUpdate k c kind f)) →
      NothingHappens .faultUpdate s) ∧
    ((∀ p f n, s.arbiter.monitorOp ≠ some (.heal p f n)) → NothingHappens .healStep s) ∧
    (s.arbiter.storeOp ≠ some .beginSave → s.store.due ≠ some .save →
      NothingHappens .beginSave s) ∧
    ((∀ p, s.arbiter.storeOp ≠ some (.saveRead p)) → NothingHappens .saveRead s) ∧
    (s.arbiter.storeOp ≠ some .endSave → NothingHappens .endSave s) ∧
    (s.arbiter.storeOp ≠ some .beginLoad → s.store.due ≠ some .load →
      NothingHappens .beginLoad s) ∧
    ((∀ g, s.arbiter.storeOp ≠ some (.loadGeometry g)) → NothingHappens .loadGeometry s) ∧
    ((∀ p, s.arbiter.storeOp ≠ some (.loadInsert p)) → NothingHappens .loadInsert s) ∧
    ((∀ g, s.arbiter.storeOp ≠ some (.endLoadSuccess g)) →
      s.arbiter.storeOp ≠ some .endLoadFailure → NothingHappens .endLoad s)

/-! ## Resets and pins -/

/-- R39, R61, R86, R155, R156, R167, R174, R177: what a hard reset leaves in every block; the start-up load has read no header (its CRC fields mean nothing before that), inserted no slot and met no key (R164, R165). The pins and the queue are log entry 24; that the start mark and, with AUTOLOAD high, the first read status have been put out, the store polling, is log entry 28. -/
def Obligations.HardResetLeavesResetValues : Prop :=
  (∀ (autoload : Bool) (s : State), ∃ t, exec (.hardReset autoload) s = .next t ∧
    t.table.records = [] ∧ t.table.generation = 0 ∧
    t.table.state = (if autoload then .loading else .ready) ∧ t.table.saveHold = false ∧
    t.table.geometry = ⟨128, 256⟩ ∧
    (∀ c, t.arbiter.asks c = false) ∧ t.arbiter.inProgress = none ∧
    t.walker.state = .idle ∧ t.walker.frameNumber = 0 ∧ t.walker.lastCompleted = none ∧
    t.walker.appliedCount = 0 ∧ t.walker.driveMax = 4095 ∧ t.walker.probeInterval = .every64 ∧
    t.walker.timer = .stopped ∧ t.walker.held = false ∧
    t.walker.blankSend = some ⟨128, 256⟩ ∧ t.out.drive = [.startMark]) ∧
  (∀ (autoload : Bool) (s : State), ∃ t, exec (.hardReset autoload) s = .next t ∧
    t.monitor.state = .idle ∧ t.monitor.enable = true ∧ t.monitor.debounce = 4 ∧
    t.monitor.healProbes = 3 ∧ t.monitor.inHand = none ∧ t.monitor.buffer = none ∧
    t.monitor.suspects = [] ∧ t.monitor.loadMark = autoload ∧ t.monitor.waiting = [] ∧
    t.engine.hand = none ∧ t.engine.answer = none ∧
    t.access.level = .operator ∧ t.access.violation = none ∧ t.access.furtherCount = 0 ∧
    t.store.state = (if autoload then .loading else .idle) ∧ t.store.lastResult = .none ∧
    t.store.due = none ∧
    t.store.flash = (if autoload then .polling 400 else .none) ∧
    (autoload = true → ∃ hc c, t.store.work = .loading ⟨none, hc, c, 0, none, none⟩) ∧
    t.out.flash = (if autoload then [⟨[0x05], 1⟩] else []) ∧
    t.events.flags = 0 ∧ t.events.mask = BitVec.allOnes 14 ∧ t.events.promotedKey = none ∧
    t.events.healedKey = none ∧ t.events.recordFaultKey = none ∧ t.attnLow = false ∧
    t.pins.svcEn = s.pins.svcEn ∧ t.pins.straps = s.pins.straps ∧ t.pending = s.pending)

/-- R148: SVC_EN, the level it forces and the one event; an operation already granted keeps the level it read. -/
def Obligations.SvcEnChangeMovesTheLevel : Prop :=
  ∀ (asserted : Bool) (s : State), ∃ t, exec (.svcEnChange asserted) s = .next t ∧
    t.pins = { s.pins with svcEn := asserted } ∧
    t.access = { s.access with level := if asserted then s.access.level else .operator } ∧
    t.events = (if asserted = false ∧ s.access.level = .service then s.events.raise .serviceClosed
      else s.events) ∧
    t.arbiter.levelAtGrant = s.arbiter.levelAtGrant ∧
    UnchangedBut [.pins, .access, .events] s t

/-- R40, R62, R87, R155, R174, R183: RESTART with the store IDLE. An operation of the walker or the monitor that is in progress is completed first (log entry 18). -/
def Obligations.RestartResetsFourBlocks : Prop :=
  ∀ (via : Via) (s : State), s.refusesWrite via = false → s.store.state = .idle →
    ∃ t, exec (.restart via) s = .next t ∧
    (t.walker.state = .idle ∧ t.walker.timer = .stopped ∧ t.walker.held = false ∧
      t.walker.blankSend = some s.table.geometry ∧ t.out.drive = [.startMark] ∧
      t.walker.frameNumber = s.walker.frameNumber ∧
      t.walker.lastCompleted = s.walker.lastCompleted ∧
      t.walker.appliedCount = s.walker.appliedCount ∧ t.walker.driveMax = s.walker.driveMax ∧
      t.walker.probeInterval = s.walker.probeInterval) ∧
    (t.monitor.state = (if s.monitor.enable then .idle else .off) ∧ t.monitor.inHand = none ∧
      t.monitor.buffer = none ∧ t.monitor.suspects = [] ∧ t.monitor.enable = s.monitor.enable ∧
      t.monitor.debounce = s.monitor.debounce ∧ t.monitor.healProbes = s.monitor.healProbes) ∧
    t.access = ⟨.operator, none, 0⟩ ∧
    t.events = { s.events with
      flags := 0, promotedKey := none, healedKey := none, recordFaultKey := none } ∧
    t.engine.hand = none ∧ t.engine.answer = none ∧
    (t.arbiter.walker = none ∧ t.arbiter.monitor = none ∧ t.arbiter.store = s.arbiter.store ∧
      t.arbiter.engine = s.arbiter.engine) ∧
    t.table = s.tableAtRestart ∧
    (s.arbiter.inProgress ≠ some .walker → s.arbiter.inProgress ≠ some .monitor →
      t.table = s.table) ∧
    (∀ k f cs, s.arbiter.walkerOp = some (.stamp k f cs) → t.table = s.table.stamp k f cs) ∧
    (∀ k c kind f, s.arbiter.monitorOp = some (.faultUpdate k c kind f) →
      t.table = (s.table.faultUpdate k c kind f).1) ∧
    (∀ k c kind f, s.arbiter.monitorOp = some (.promote k c kind f) →
      t.table = (s.table.promote k c kind f).1) ∧
    (∀ p f n, s.arbiter.monitorOp = some (.heal p f n) → t.table = (s.table.healStep p f n).1) ∧
    t.table.state = s.table.state ∧ t.table.saveHold = s.table.saveHold ∧
    t.table.geometry = s.table.geometry ∧
    t.store = s.store ∧ t.pins = s.pins ∧ t.pending = s.pending

/-! ## The raster walker -/

/-- R14: the base code and its range, the bound on every drive code, and the DRIVE_MAX of a frame taken at its start and at no other time; with the probe code of R16. That RESTART leaves the frame latches is log entry 36. -/
def Obligations.DriveMaxScalesAFrame : Prop :=
  ((∀ level driveMax, baseCode level driveMax = level * driveMax / 4095) ∧
  (∀ driveMax, baseCode 0 driveMax = 0 ∧ baseCode 4095 driveMax = driveMax) ∧
  (∀ level, baseCode level 4095 = level) ∧
  (∀ driveMax, probeCode driveMax = max 1 (driveMax / 64)) ∧
  probeCode 255 = 3 ∧ probeCode 4095 = 63 ∧
  ∀ (driveMax level : Nat) (probing : Bool) (found : Option Record) (c : Colour),
    255 ≤ driveMax → driveMax ≤ 4095 → level ≤ 4095 →
    driveCode driveMax probing found c level ≤ driveMax) ∧
  (∀ (c : Instr) (s t : State), exec c s = .next t → (∀ a, c ≠ .hardReset a) →
    t.walker.latches = s.walker.latches ∨
      (t.walker.frameNumber = s.walker.frameNumber + 1 ∧
        t.walker.latches.geometry = s.table.geometry ∧
        t.walker.latches.driveMax = s.walker.driveMax ∧
        t.walker.latches.probeInterval = s.walker.probeInterval))

/-- R15, R16: the drive code of each kind of action; `probing` is conditions 1, 4 and 5 of R16, and the probed colours are those of conditions 2 and 3. R21, R35, R58: the walker's find is none while the table is LOADING. R50: what counts as applied. -/
def Obligations.DriveCodeOfEachAction : Prop :=
  (∀ (d level : Nat) (probing : Bool) (r : Record) (c : Colour),
    driveCode d probing none c level = baseCode level d ∧
    (r.pers.status = .dormant → driveCode d probing (some r) c level = baseCode level d) ∧
    (r.pers.status = .active →
      ((r.pers.action c).mode = .pass → driveCode d probing (some r) c level = baseCode level d) ∧
      ((r.pers.action c).mode = .trim → driveCode d probing (some r) c level =
        min d (baseCode level d * (r.pers.action c).value / 1024)) ∧
      ((r.pers.action c).mode = .mute → driveCode d probing (some r) c level =
        if probing = true ∧ (r.pers.action c).auto = true then probeCode d else 0) ∧
      ((r.pers.action c).mode = .hold → driveCode d probing (some r) c level =
        min (r.pers.action c).value d))) ∧
  (∀ s : State, s.probing = true ↔ s.walker.latches.probeFrame = true ∧
    s.monitor.enable = true ∧ s.table.state = .ready) ∧
  (∀ (probing : Bool) (found : Option Record) (c : Colour),
    c ∈ probedColours probing found ↔ probing = true ∧ ∃ r, found = some r ∧
      r.pers.status = .active ∧ (r.pers.action c).mode = .mute ∧
      (r.pers.action c).auto = true) ∧
  (∀ found : Option Record, countsAsApplied found = true ↔
    ∃ r, found = some r ∧ r.pers.status = .active) ∧
  (∀ (t : Table) (k : Key), t.find k = t.records.find? (fun r => r.pers.key = k) ∧
    t.walkerFind k = if t.state = .loading then none else t.find k) ∧
  ∀ p : Persistent, p.action .red = p.red ∧ p.action .green = p.green ∧ p.action .blue = p.blue

/-- R45, R46, R53: a frame start in IDLE, WAITING or BLANK begins a frame; one after the last level of a frame is held, and taken when the walker has left WALKING; one that arrives while another is held takes its place, in WAITING or BLANK too (log entry 8). -/
def Obligations.FrameStartBeginsAFrame : Prop :=
  (∀ s : State, s.walker.state ≠ .walking → s.walker.held = false →
    ∃ t, exec .frameStart s = .next t ∧ FrameBegun s t ∧ t.out.drive = [.startMark] ∧
      UnchangedBut [.walker, .arbiter] s t) ∧
  ((∀ s : State, s.walker.state = .walking → s.walker.ending = none →
    s.walker.arrived = s.walker.frameLevels → ∃ t, exec .frameStart s = .next t ∧
      t.walker = { s.walker with held := true, heldLevels := [] } ∧ t.out.drive = [] ∧
      UnchangedBut [.walker] s t) ∧
  (∀ s : State, s.walker.state ≠ .walking → s.walker.held = true →
    ∃ t, exec .frameStart s = .next t ∧
      t.walker = { s.walker with held := true, heldLevels := [] } ∧ t.out.drive = [] ∧
      UnchangedBut [.walker] s t) ∧
  (∀ s : State, s.walker.held = true → s.walker.state ≠ .walking →
    ∃ t, exec .heldFrameStart s = .next t ∧ FrameBegun s t ∧ t.out.drive = [.startMark] ∧
      UnchangedBut [.walker, .arbiter] s t) ∧
  (∀ s : State, ¬ (s.walker.held = true ∧ s.walker.state ≠ .walking) →
    ∃ t, exec .heldFrameStart s = .next t ∧ t.out.drive = [] ∧ UnchangedBut [] s t))

/-- R54: a frame start before the last level ends the frame short, at once or, while the walker's request is unfinished, when that is finished: the outcome of a find is set aside and no codes are sent, a stamp is made or discarded, and then SHORT_FRAME is raised and the new frame begins. A frame start that arrives meanwhile takes the waiting one's place, and one that arrives while the frame is marked as lost is held (log entry 10). -/
def Obligations.FrameStartEndsAFrameShort : Prop :=
  (∀ s : State, s.walker.state = .walking → s.walker.ending = none →
    s.walker.arrived ≠ s.walker.frameLevels → ∃ t, exec .frameStart s = .next t ∧
    (s.arbiter.walker = none →
      FrameBegun s t ∧ t.events = s.events.raise .shortFrame ∧ t.out.drive = [.startMark] ∧
        UnchangedBut [.walker, .arbiter, .events] s t) ∧
    (s.arbiter.walker ≠ none →
      t.walker = { s.walker with ending := some .short, heldLevels := [] } ∧
        t.out.drive = [] ∧ UnchangedBut [.walker] s t)) ∧
  (∀ (s : State) (e : Ending), s.walker.state = .walking → s.walker.ending = some e →
    ∃ t, exec .frameStart s = .next t ∧ t.out.drive = [] ∧ UnchangedBut [.walker] s t ∧
    (e = .short → t.walker = { s.walker with heldLevels := [] }) ∧
    (e = .lost → t.walker = { s.walker with held := true, heldLevels := [] })) ∧
  (∀ (s : State) (k : Key), s.arbiter.walkerOp = some (.find k) →
    s.walker.ending = some .short → ∃ t, exec .findByKey s = .next t ∧
      FrameBegun (s.complete .walker s.table) t ∧ t.events = s.events.raise .shortFrame ∧
      t.out.drive = [.startMark] ∧ UnchangedBut [.walker, .arbiter, .events] s t) ∧
  (∀ (s : State) (k : Key) (f : FrameNo) (cs : List Colour),
    s.arbiter.walkerOp = some (.stamp k f cs) → s.walker.ending = some .short →
    ∃ t, exec .stampProbeFrame s = .next t ∧ t.table = s.table.stamp k f cs ∧
      FrameBegun (s.complete .walker t.table) t ∧ t.events = s.events.raise .shortFrame ∧
      t.out.drive = [.startMark] ∧ UnchangedBut [.table, .walker, .arbiter, .events] s t)

/-- R44, R48 step 1: a level of the frame in hand is taken, and with three the walker asks for its find; in WALKING a level after a waiting frame start waits with it (log entry 10); every other level, each one outside WALKING among them, is ignored. -/
def Obligations.PixelLevelIsTakenOrIgnored : Prop :=
  (∀ w : Walker, w.frameLevels = 3 * (w.latches.geometry.rows * w.latches.geometry.cols)) ∧
  ∀ (l : Level) (s : State), ∃ t, exec (.pixelLevel l) s = .next t ∧ t.out.drive = [] ∧
    (s.walker.state ≠ .walking → UnchangedBut [] s t) ∧
    (s.walker.state = .walking → s.walker.held = true ∨ s.walker.ending = some .short →
      t.walker = { s.walker with heldLevels := s.walker.heldLevels ++ [l] } ∧
      UnchangedBut [.walker] s t) ∧
    (s.walker.state = .walking → s.walker.held = false → s.walker.ending ≠ some .short →
      (s.walker.ending = none ∧ s.walker.arrived < s.walker.frameLevels →
        t.walker = { s.walker with
          levels := s.walker.levels ++ [l], arrived := s.walker.arrived + 1 } ∧
        (s.arbiter.walker = none ∧ 2 ≤ s.walker.levels.length →
          t.arbiter.walker = some (.find s.walker.position)) ∧
        (¬ (s.arbiter.walker = none ∧ 2 ≤ s.walker.levels.length) → t.arbiter = s.arbiter) ∧
        UnchangedBut [.walker, .arbiter] s t) ∧
      (¬ (s.walker.ending = none ∧ s.walker.arrived < s.walker.frameLevels) →
        UnchangedBut [] s t))

/-- R53 to R57: the video timer runs out, by the timer, the walker's state and what has arrived, without effect while the frame is marked to end (log entry 10); what follows when the request of a frame marked as lost is finished; and the end of a blank send. -/
def Obligations.VideoIsLostAndBlanked : Prop :=
  (∀ s : State, s.monitor.nothingOverdue → ∃ t, exec .videoTimerExpiry s = .next t ∧
    (s.walker.timer = .stopped → UnchangedBut [] s t) ∧
    (s.walker.timer = .running →
      (s.walker.state = .waiting ∨ (s.walker.state = .walking ∧ s.walker.ending = none ∧
          s.walker.arrived ≠ s.walker.frameLevels ∧ s.arbiter.walker = none) →
        VideoLost s t ∧ SuspectsCleared s t ∧
        UnchangedBut [.walker, .monitor, .events] s t) ∧
      (s.walker.state = .walking → s.walker.ending = none →
        s.walker.arrived ≠ s.walker.frameLevels → s.arbiter.walker ≠ none →
        t.walker = { s.walker with ending := some .lost, heldLevels := [] } ∧
        UnchangedBut [.walker] s t) ∧
      (s.walker.state = .walking → s.walker.ending = none →
        s.walker.arrived = s.walker.frameLevels →
        t.walker = { s.walker with heldExpiry := true } ∧ UnchangedBut [.walker] s t) ∧
      (s.walker.state = .walking → s.walker.ending ≠ none →
        t.out.drive = [] ∧ UnchangedBut [] s t) ∧
      (s.walker.state = .idle ∨ s.walker.state = .blank →
        t.out.drive = [] ∧ UnchangedBut [] s t))) ∧
  (∀ (s : State) (k : Key), s.monitor.nothingOverdue → s.arbiter.walkerOp = some (.find k) →
    s.walker.ending = some .lost → ∃ t, exec .findByKey s = .next t ∧
      VideoLost s t ∧ SuspectsCleared s t ∧ Completed s .walker t ∧
      UnchangedBut [.walker, .arbiter, .monitor, .events] s t) ∧
  (∀ (s : State) (k : Key) (f : FrameNo) (cs : List Colour), s.monitor.nothingOverdue →
    s.arbiter.walkerOp = some (.stamp k f cs) → s.walker.ending = some .lost →
    ∃ t, exec .stampProbeFrame s = .next t ∧ t.table = s.table.stamp k f cs ∧
      VideoLost s t ∧ SuspectsCleared s t ∧ Completed s .walker t ∧
      UnchangedBut [.table, .walker, .arbiter, .monitor, .events] s t) ∧
  (∀ s : State, ∃ t, exec .blankSendOver s = .next t ∧
    (∀ g, s.walker.blankSend = some g →
      t.out.drive = [.zeros (3 * (g.rows * g.cols)), .latch s.walker.frameNumber false] ∧
      t.walker = { s.walker with blankSend := none } ∧ UnchangedBut [.walker] s t) ∧
    (s.walker.blankSend = none → t.out.drive = [] ∧ UnchangedBut [] s t))

/-- R48 to R50: the walker's find drives an emitter that is not the last; with a probed colour the walker asks for a stamp once the codes are sent. That the count stays at 512 is log entry 30. -/
def Obligations.WalkerFindDrivesAnEmitter : Prop :=
  (∀ (g : Geometry) (k : Key), g.last = ⟨g.rows - 1, g.cols - 1⟩ ∧
    g.after k = if k.col < g.cols - 1 then ⟨k.row, k.col + 1⟩ else ⟨k.row + 1, 0⟩) ∧
  (∀ (s : State) (k : Key) (r g b : Level) (rest : List Level),
    s.arbiter.walkerOp = some (.find k) → s.walker.state = .walking → s.walker.ending = none →
    s.walker.levels = r :: g :: b :: rest →
    s.walker.position ≠ s.walker.latches.geometry.last →
    probedColours s.probing (s.table.walkerFind k) = [] →
    ∃ t, exec .findByKey s = .next t ∧
      t.out.drive = [.codes
        (driveCode s.walker.latches.driveMax s.probing (s.table.walkerFind k) .red r.toNat)
        (driveCode s.walker.latches.driveMax s.probing (s.table.walkerFind k) .green g.toNat)
        (driveCode s.walker.latches.driveMax s.probing (s.table.walkerFind k) .blue b.toNat)] ∧
      t.walker = { s.walker with
        running := min (s.walker.running +
          if countsAsApplied (s.table.walkerFind k) then 1 else 0) 512
        position := s.walker.latches.geometry.after s.walker.position
        levels := rest } ∧
      t.arbiter.walker = (if 3 ≤ rest.length
        then some (.find (s.walker.latches.geometry.after s.walker.position)) else none) ∧
      UnchangedBut [.walker, .arbiter] s t) ∧
  (∀ (s : State) (k : Key) (r g b : Level) (rest : List Level),
    s.arbiter.walkerOp = some (.find k) → s.walker.ending = none →
    s.walker.levels = r :: g :: b :: rest →
    probedColours s.probing (s.table.walkerFind k) ≠ [] →
    ∃ t, exec .findByKey s = .next t ∧
      t.out.drive = [.codes
        (driveCode s.walker.latches.driveMax s.probing (s.table.walkerFind k) .red r.toNat)
        (driveCode s.walker.latches.driveMax s.probing (s.table.walkerFind k) .green g.toNat)
        (driveCode s.walker.latches.driveMax s.probing (s.table.walkerFind k) .blue b.toNat)] ∧
      t.walker = { s.walker with running := min (s.walker.running + 1) 512 } ∧
      t.arbiter.walker = some (.stamp s.walker.position s.walker.frameNumber
        (probedColours s.probing (s.table.walkerFind k))) ∧
      UnchangedBut [.walker, .arbiter] s t)

/-- R52: driving the last emitter completes the frame, in the completion of its find or, with a probed colour, of its stamp; R53: an expiry held alone is taken in the same step (log entry 8). That the count stays at 512 is log entry 30. -/
def Obligations.LastEmitterCompletesTheFrame : Prop :=
  (∀ (s : State) (k : Key) (r g b : Level) (rest : List Level),
    s.arbiter.walkerOp = some (.find k) → s.walker.ending = none →
    s.walker.levels = r :: g :: b :: rest →
    s.walker.position = s.walker.latches.geometry.last →
    probedColours s.probing (s.table.walkerFind k) = [] →
    ∃ t, exec .findByKey s = .next t ∧ t.table = s.table ∧ Completed s .walker t ∧
      FrameCompleted s
        (min (s.walker.running + if countsAsApplied (s.table.walkerFind k) then 1 else 0) 512)
        [.codes
          (driveCode s.walker.latches.driveMax s.probing (s.table.walkerFind k) .red r.toNat)
          (driveCode s.walker.latches.driveMax s.probing (s.table.walkerFind k) .green g.toNat)
          (driveCode s.walker.latches.driveMax s.probing (s.table.walkerFind k) .blue b.toNat)]
        t) ∧
  (∀ (s : State) (k : Key) (f : FrameNo) (cs : List Colour),
    s.arbiter.walkerOp = some (.stamp k f cs) → s.walker.ending = none →
    s.walker.position = s.walker.latches.geometry.last →
    ∃ t, exec .stampProbeFrame s = .next t ∧ t.table = s.table.stamp k f cs ∧
      Completed s .walker t ∧ FrameCompleted s s.walker.running [] t)

/-- R27, R49: the stamp is made when all its conditions hold at the grant, and otherwise discarded; either way the walker goes on. -/
def Obligations.StampWritesTheProbeFrame : Prop :=
  ∀ (s : State) (k : Key) (f : FrameNo) (cs : List Colour),
    s.arbiter.walkerOp = some (.stamp k f cs) →
    ∃ t, exec .stampProbeFrame s = .next t ∧ OthersKept k s.table t.table ∧
      SettingsKept s.table t.table ∧
      (∀ r, s.table.state = .ready → s.table.find k = some r → r.pers.status = .active →
        (∃ c ∈ cs, (r.pers.action c).mode = .mute ∧ (r.pers.action c).auto = true) →
        t.table.find k = some { r with vol := { r.vol with probeFrame := some f } }) ∧
      (¬ (s.table.state = .ready ∧ ∃ r, s.table.find k = some r ∧ r.pers.status = .active ∧
          ∃ c ∈ cs, (r.pers.action c).mode = .mute ∧ (r.pers.action c).auto = true) →
        t.table = s.table) ∧
      (s.walker.ending = none → s.walker.position ≠ s.walker.latches.geometry.last →
        t.walker = { s.walker with
          position := s.walker.latches.geometry.after s.walker.position
          levels := s.walker.levels.drop 3 } ∧
        UnchangedBut [.table, .walker, .arbiter] s t)

/-! ## The fault monitor -/

/-- R64, R66, R67, R70, R71, R78, R79: a report is discarded, waits in the buffer, or is taken in hand by an IDLE monitor, which begins with the suspect check, the first entry not ignored or the heal pass; and what any report taken in hand begins with, the buffered one at the end of another among them. -/
def Obligations.FaultReportIsTakenOrNot : Prop :=
  (∀ (r : Report) (s : State), ∃ t, exec (.faultReport r) s = .next t ∧
    (s.monitor.state = .off → UnchangedBut [] s t) ∧
    (s.monitor.state = .idle → s.monitor.loadMark = true → UnchangedBut [] s t) ∧
    (s.monitor.state = .processing ∨ s.monitor.state = .healing →
      (s.monitor.buffer = none →
        t.monitor = { s.monitor with
          buffer := some
            ⟨r.frame, r.truncated || decide (48 < r.entries.length), r.entries.take 48⟩ } ∧
        UnchangedBut [.monitor] s t) ∧
      (s.monitor.buffer ≠ none →
        t.events = s.events.raise .reportOverrun ∧ UnchangedBut [.events] s t))) ∧
  (∀ (r kept : Report) (s : State), s.monitor.state = .idle → s.monitor.loadMark = false →
    s.monitor.waiting = [] →
    kept = ⟨r.frame, r.truncated || decide (48 < r.entries.length), r.entries.take 48⟩ →
    ∃ t, exec (.faultReport r) s = .next t ∧ UnchangedBut [.monitor, .arbiter] s t ∧
    ∃ u, u = s.withMonitor { s.monitor with
        state := .processing, inHand := some kept, latchedDebounce := s.monitor.debounce
        latchedHealProbes := s.monitor.healProbes, entryPosition := 0, checkPosition := 0
        healPosition := none } ∧
      (∀ e es, s.monitor.suspects = e :: es →
        t.monitor = u.monitor ∧ t.arbiter.monitor = some (.find e.key)) ∧
      (s.monitor.suspects = [] → EntriesGoOn kept u t)) ∧
  (∀ (r : Report) (s u : State), u = (s.withMonitor { s.monitor with
        state := .processing, inHand := some r, latchedDebounce := s.monitor.debounce
        latchedHealProbes := s.monitor.healProbes, entryPosition := 0, checkPosition := 0
        healPosition := none }).stepPoint →
    (u.monitor.inHand = none → s.takeReport State.endReport r = u) ∧
    (u.monitor.inHand ≠ none →
      (∀ e es, u.monitor.suspects = e :: es →
        s.takeReport State.endReport r = u.askMonitor (.find e.key)) ∧
      (u.monitor.suspects = [] →
        s.takeReport State.endReport r = u.continueEntries State.endReport))) ∧
  (∀ s : State,
    (s.monitor.buffer = none → s.endReport = (s.withMonitor { s.monitor with
      state := .idle, inHand := none, healPosition := none }).stepPoint) ∧
    (∀ b, s.monitor.buffer = some b → s.endReport =
      (s.withMonitor { s.monitor with buffer := none }).takeReport State.endReport b))

/-- R71, R78: the three cases in which an entry is ignored; the step point after an entry; what the monitor does at its entry position, the step point after the removal of unseen suspects among it; and, with no request waiting, where it comes to: the next entry not ignored, the heal pass or the end. -/
def Obligations.HandledEntryLeadsOn : Prop :=
  (∀ (g : Geometry) (before : Option ReportEntry) (e : ReportEntry),
    countedEntry g before e = none ↔
      (¬ g.contains ⟨e.row.toNat, e.col.toNat⟩ ∨ e.colour = none ∨ e.kind = none ∨
        ∃ b, before = some b ∧ b.row = e.row ∧ b.col = e.col ∧ b.colour = e.colour)) ∧
  (∀ (g : Geometry) (before : Option ReportEntry) (e : ReportEntry) (k : Key) (c : Colour)
    (kind : FaultKind), countedEntry g before e = some (k, c, kind) →
    k = ⟨e.row.toNat, e.col.toNat⟩ ∧ e.colour = some c ∧ e.kind = some kind) ∧
  (∀ s u : State, u = (s.withMonitor
      { s.monitor with entryPosition := s.monitor.entryPosition + 1 }).stepPoint →
    (u.monitor.inHand = none → s.entryHandled = u) ∧
    (u.monitor.inHand ≠ none → s.entryHandled = u.continueEntries State.endReport)) ∧
  (∀ (s : State) (r : Report), s.monitor.inHand = some r →
    (∀ k c kind,
      CountedAt s.table.geometry r.entries s.monitor.entryPosition (k, c, kind) →
      s.continueEntries State.endReport = s.askMonitor (.faultUpdate k c kind r.frame)) ∧
    (IgnoredAt s.table.geometry r.entries s.monitor.entryPosition →
      s.continueEntries State.endReport = s.entryHandled) ∧
    (r.entries.length ≤ s.monitor.entryPosition →
      ∀ u, u = (s.withMonitor { s.monitor with
          suspects := if r.truncated = true then s.monitor.suspects
            else s.monitor.suspects.filter (fun x => x.lastFrame = r.frame) }).stepPoint →
      (u.monitor.inHand = none → s.continueEntries State.endReport = u) ∧
      (u.monitor.inHand ≠ none → r.truncated = true →
        s.continueEntries State.endReport = u.endReport) ∧
      (u.monitor.inHand ≠ none → r.truncated = false →
        s.continueEntries State.endReport =
          (u.withMonitor { u.monitor with state := .healing, healPosition := none }).askMonitor
            (.heal none r.frame u.monitor.latchedHealProbes)))) ∧
  (∀ (s : State) (r : Report), s.monitor.inHand = some r → s.monitor.waiting = [] →
    EntriesGoOn r s (s.continueEntries State.endReport) ∧
    EntriesGoOn r
      (s.withMonitor { s.monitor with entryPosition := s.monitor.entryPosition + 1 })
      s.entryHandled)

/-- R70, R79: the outcome of a find of the suspect check. -/
def Obligations.SuspectCheckRemovesFiledSuspects : Prop :=
  ∀ (s : State) (k : Key), s.arbiter.monitorOp = some (.find k) →
    (s.table.state = .loading →
      ∃ u, ReportDropped s u ∧ exec .findByKey s = .next u.stepPoint) ∧
    (s.table.state = .ready →
      ∃ u, exec .findByKey s = .next (u.checkSuspects State.endReport) ∧
        (s.table.find k = none → u.monitor =
          { s.monitor with checkPosition := s.monitor.checkPosition + 1 }) ∧
        (s.table.find k ≠ none → u.monitor =
          { s.monitor with suspects := s.monitor.suspects.eraseIdx s.monitor.checkPosition }) ∧
        Completed s .monitor u ∧ UnchangedBut [.monitor, .arbiter] s u ∧
        (∀ e, u.monitor.suspects[u.monitor.checkPosition]? = some e →
          u.checkSuspects State.endReport = u.askMonitor (.find e.key)) ∧
        (u.monitor.suspects[u.monitor.checkPosition]? = none →
          u.checkSuspects State.endReport = u.continueEntries State.endReport))

/-- R26: a fault update on the table, and its outcome. -/
def Obligations.FaultUpdateCountsAndExtends : Prop :=
  (∀ (p : Persistent) (a : Action), p.withAction .red a = { p with red := a } ∧
    p.withAction .green a = { p with green := a } ∧
    p.withAction .blue a = { p with blue := a }) ∧
  ∀ (s : State) (k : Key) (c : Colour) (kind : FaultKind) (f : FrameNo),
    s.arbiter.monitorOp = some (.faultUpdate k c kind f) →
    ∃ t, exec .faultUpdate s = .next t ∧
    (s.table.state = .loading →
      t.table = s.table ∧ (s.table.faultUpdate k c kind f).2 = .loading) ∧
    (s.table.state = .ready → s.table.find k = none →
      t.table = s.table ∧ (s.table.faultUpdate k c kind f).2 = .none) ∧
    (∀ r, s.table.state = .ready → s.table.find k = some r →
      OthersKept k s.table t.table ∧ t.table.records.length = s.table.records.length ∧
      ∃ r', t.table.find k = some r' ∧
        r'.vol = { r.vol with
          faultCount := min (r.vol.faultCount + 1) 255, lastFault := some ⟨c, kind, f⟩ } ∧
        (r.pers.origin = .detected → (r.pers.action c).mode ≠ .mute → s.table.saveHold = false →
          r'.pers = r.pers.withAction c ⟨.mute, 0, true⟩ ∧ GenerationAdvanced s.table t.table ∧
          (s.table.faultUpdate k c kind f).2 = .extended) ∧
        (r.pers.origin = .detected → (r.pers.action c).mode ≠ .mute → s.table.saveHold = true →
          r'.pers = r.pers ∧ SettingsKept s.table t.table ∧
          (s.table.faultUpdate k c kind f).2 = .extensionSkipped) ∧
        (r.pers.origin = .detected → (r.pers.action c).mode = .mute →
          r'.pers = r.pers ∧ SettingsKept s.table t.table ∧
          (s.table.faultUpdate k c kind f).2 = .updated) ∧
        (r.pers.origin ≠ .detected →
          r'.pers = r.pers ∧ SettingsKept s.table t.table ∧
          (s.table.faultUpdate k c kind f).2 = .notDetected))

/-- R72 to R74, R79: what the monitor does on each outcome of a fault update: its event, or the suspect counted or appended. -/
def Obligations.FaultUpdateOutcomeIsActedOn : Prop :=
  (∀ (s : State) (k : Key) (c : Colour) (kind : FaultKind) (f : FrameNo),
    s.arbiter.monitorOp = some (.faultUpdate k c kind f) →
    ((s.table.faultUpdate k c kind f).2 = .loading →
      ∃ u, ReportDropped s u ∧ exec .faultUpdate s = .next u.stepPoint) ∧
    ((s.table.faultUpdate k c kind f).2 ≠ .loading → (s.table.faultUpdate k c kind f).2 ≠ .none →
      ∃ u, exec .faultUpdate s = .next u.entryHandled ∧ Completed s .monitor u ∧
        UnchangedBut [.table, .arbiter, .events] s u ∧
        ((s.table.faultUpdate k c kind f).2 = .extended →
          u.events = { s.events.raise .promoted with promotedKey := some k }) ∧
        ((s.table.faultUpdate k c kind f).2 = .notDetected →
          u.events = { s.events.raise .recordFault with recordFaultKey := some k }) ∧
        ((s.table.faultUpdate k c kind f).2 = .updated ∨
            (s.table.faultUpdate k c kind f).2 = .extensionSkipped → u.events = s.events))) ∧
  (∀ (s : State) (k : Key) (c : Colour) (kind : FaultKind) (f : FrameNo),
    s.arbiter.monitorOp = some (.faultUpdate k c kind f) → s.table.state = .ready →
    s.table.find k = none →
    (∀ e, s.monitor.suspects.find? (fun x => x.key = k ∧ x.colour = c) = some e →
      (s.monitor.latchedDebounce ≤ (if e.kind = kind then min (e.count + 1) 32 else 1) →
        ∃ t, exec .faultUpdate s = .next t ∧
          t.monitor = { s.monitor with suspects := s.monitor.suspects.map (fun x =>
            if x.key = k ∧ x.colour = c then { x with
              count := if x.kind = kind then min (x.count + 1) 32 else 1
              kind := kind, lastFrame := f } else x) } ∧
          t.arbiter.monitor = some (.promote k c kind f) ∧
          UnchangedBut [.monitor, .arbiter] s t) ∧
      (¬ s.monitor.latchedDebounce ≤ (if e.kind = kind then min (e.count + 1) 32 else 1) →
        ∃ u, exec .faultUpdate s = .next u.entryHandled ∧
          u.monitor = { s.monitor with suspects := s.monitor.suspects.map (fun x =>
            if x.key = k ∧ x.colour = c then { x with
              count := if x.kind = kind then min (x.count + 1) 32 else 1
              kind := kind, lastFrame := f, state := .counting } else x) } ∧
          Completed s .monitor u ∧ UnchangedBut [.monitor, .arbiter] s u)) ∧
    (s.monitor.suspects.find? (fun x => x.key = k ∧ x.colour = c) = none →
      ∃ u, exec .faultUpdate s = .next u.entryHandled ∧ Completed s .monitor u ∧
        (s.monitor.suspects.length < 16 →
          u.monitor = { s.monitor with
            suspects := s.monitor.suspects ++ [⟨k, c, kind, 1, f, .counting⟩] } ∧
          UnchangedBut [.monitor, .arbiter] s u) ∧
        (16 ≤ s.monitor.suspects.length →
          u.events = s.events.raise .suspectFull ∧ UnchangedBut [.events, .arbiter] s u)))

/-- R23, R75: a promotion insert on the table, its checks in their order, each with its outcome. -/
def Obligations.PromotionInsertFilesARecord : Prop :=
  ∀ (s : State) (k : Key) (c : Colour) (kind : FaultKind) (f : FrameNo),
    s.arbiter.monitorOp = some (.promote k c kind f) →
    ∃ t, exec .promotionInsert s = .next t ∧ OthersKept k s.table t.table ∧
    (s.table.state = .loading →
      t.table = s.table ∧ (s.table.promote k c kind f).2 = .loading) ∧
    (s.table.state = .ready → ¬ s.table.geometry.contains k →
      t.table = s.table ∧ (s.table.promote k c kind f).2 = .outside) ∧
    (∀ r, s.table.state = .ready → s.table.geometry.contains k → s.table.find k = some r →
      t.table = (s.table.faultUpdate k c kind f).1 ∧
      (s.table.promote k c kind f).2 = .merged (s.table.faultUpdate k c kind f).2) ∧
    (s.table.state = .ready → s.table.geometry.contains k → s.table.find k = none →
      (s.table.saveHold = true →
        t.table = s.table ∧ (s.table.promote k c kind f).2 = .heldBySave) ∧
      (s.table.saveHold = false → 512 ≤ s.table.records.length →
        t.table = s.table ∧ (s.table.promote k c kind f).2 = .full) ∧
      (s.table.saveHold = false → s.table.records.length < 512 →
        (s.table.promote k c kind f).2 = .inserted ∧
        t.table.find k = some ⟨Persistent.withAction
          ⟨k, .detected, .active, ⟨.pass, 0, false⟩, ⟨.pass, 0, false⟩, ⟨.pass, 0, false⟩, 0⟩ c
          ⟨.mute, 0, true⟩, ⟨0, none, none, 0⟩⟩ ∧
        t.table.records.length = s.table.records.length + 1 ∧ GenerationAdvanced s.table t.table))

/-- R76: what the monitor does on each outcome of a promotion insert. -/
def Obligations.PromotionOutcomeIsActedOn : Prop :=
  ∀ (s : State) (k : Key) (c : Colour) (kind : FaultKind) (f : FrameNo),
    s.arbiter.monitorOp = some (.promote k c kind f) →
    ((s.table.promote k c kind f).2 = .loading →
      ∃ u, ReportDropped s u ∧ exec .promotionInsert s = .next u.stepPoint) ∧
    ((s.table.promote k c kind f).2 ≠ .loading →
      ∃ u, exec .promotionInsert s = .next u.entryHandled ∧ Completed s .monitor u ∧
        UnchangedBut [.table, .arbiter, .monitor, .events] s u ∧
        ((s.table.promote k c kind f).2 ≠ .heldBySave → (s.table.promote k c kind f).2 ≠ .full →
          u.monitor = { s.monitor with
            suspects := s.monitor.suspects.filter (fun x => ¬ (x.key = k ∧ x.colour = c)) }) ∧
        ((s.table.promote k c kind f).2 = .heldBySave ∨ (s.table.promote k c kind f).2 = .full →
          u.monitor = { s.monitor with suspects := s.monitor.suspects.map (fun x =>
            if x.key = k ∧ x.colour = c then { x with state := .held } else x) }) ∧
        u.events =
          (if (s.table.promote k c kind f).2 = .inserted ∨
              (s.table.promote k c kind f).2 = .merged .extended then
            { s.events.raise .promoted with promotedKey := some k }
          else if (s.table.promote k c kind f).2 = .merged .notDetected then
            { s.events.raise .recordFault with recordFaultKey := some k }
          else if (s.table.promote k c kind f).2 = .full ∧
              (∃ x ∈ s.monitor.suspects, x.key = k ∧ x.colour = c ∧ x.state = .counting) then
            s.events.raise .tableFull
          else s.events))

/-- R29: a heal step on the table, and its outcome. -/
def Obligations.HealStepCountsAndRetires : Prop :=
  (∀ k p : Key, aheadOf none k = true ∧ (aheadOf (some p) k = true ↔ p.before k)) ∧
  ∀ (s : State) (position : Option Key) (f : FrameNo) (n : Nat),
    s.arbiter.monitorOp = some (.heal position f n) → s.table.lawful →
    ∃ t, exec .healStep s = .next t ∧
    (s.table.state = .loading →
      t.table = s.table ∧ (s.table.healStep position f n).2 = .loading) ∧
    (s.table.state = .ready →
      (s.table.records.find? (fun r => aheadOf position r.pers.key ∧ r.pers.origin = .detected ∧
          r.vol.probeFrame = some f) = none →
        t.table = s.table ∧ (s.table.healStep position f n).2 = .endOfPass) ∧
      (∀ r, s.table.records.find? (fun r => aheadOf position r.pers.key ∧
          r.pers.origin = .detected ∧ r.vol.probeFrame = some f) = some r →
        ∀ m, m = (if r.vol.lastFault.map LastFault.frame = some f then 0
            else min (r.vol.healCount + 1) 15) →
        OthersKept r.pers.key s.table t.table ∧
        (n ≤ m → s.table.saveHold = false →
          t.table.find r.pers.key = none ∧
          t.table.records.length + 1 = s.table.records.length ∧
          GenerationAdvanced s.table t.table ∧
          (s.table.healStep position f n).2 = .healed r.pers.key) ∧
        (¬ (n ≤ m ∧ s.table.saveHold = false) →
          t.table.find r.pers.key = some { r with vol := { r.vol with healCount := m } } ∧
          t.table.records.length = s.table.records.length ∧ SettingsKept s.table t.table ∧
          (s.table.healStep position f n).2 =
            if n ≤ m then .deferred r.pers.key else .counted r.pers.key)))

/-- R79, R92: what the monitor does on the outcome of a heal step: the step point between two steps and the next step, or the end of the pass, with the buffered report taken if there is one. -/
def Obligations.HealPassGoesOnOrEnds : Prop :=
  ∀ (s : State) (position : Option Key) (f : FrameNo) (n : Nat),
    s.arbiter.monitorOp = some (.heal position f n) →
    (∀ k, (s.table.healStep position f n).2 = .counted k ∨
        (s.table.healStep position f n).2 = .deferred k ∨
        (s.table.healStep position f n).2 = .healed k →
      ∃ u v, u.monitor = { s.monitor with healPosition := some k } ∧ Completed s .monitor u ∧
        UnchangedBut [.table, .arbiter, .monitor, .events] s u ∧
        u.events = (if (s.table.healStep position f n).2 = .healed k
          then { s.events.raise .healed with healedKey := some k } else s.events) ∧
        v = u.stepPoint ∧
        (v.monitor.inHand = none → exec .healStep s = .next v) ∧
        (∀ r, v.monitor.inHand = some r → exec .healStep s = .next
          (v.askMonitor (.heal (some k) r.frame v.monitor.latchedHealProbes)))) ∧
    ((s.table.healStep position f n).2 = .endOfPass →
      ∃ u, u.monitor = s.monitor ∧ Completed s .monitor u ∧ UnchangedBut [.arbiter] s u ∧
        exec .healStep s = .next u.endReport) ∧
    ((s.table.healStep position f n).2 = .loading →
      ∃ u, ReportDropped s u ∧ exec .healStep s = .next u.stepPoint)

/-- R68, R80 to R83: SET_MONITOR refused, taken at rest, or waiting for a step point; SUSPECTS reads the list and CLEAR_SUSPECTS empties it. R185: the suspect entry. -/
def Obligations.MonitorCommandsAreTaken : Prop :=
  (∀ m : Monitor, m.atRest = true ↔ m.state = .idle ∨ m.state = .off) ∧
  (∀ e : Suspect, suspectBytes e = [byte e.key.row, byte e.key.col,
    (match e.colour with
      | .red => 0
      | .green => 1
      | .blue => 2), byte e.count,
    byte ((match e.kind with
      | .openCircuit => 0
      | .shortCircuit => 1) + (match e.state with
      | .counting => 0
      | .held => 2))]) ∧
  (∀ (via : Via) (d h e : Byte) (s : State), s.refusesWrite via = false →
    s.monitor.nothingOverdue → ∃ t, exec (.setMonitor via d h e) s = .next t ∧
    t.events = (s.acceptWrite via).events ∧
    (¬ (2 ≤ d.toNat ∧ d.toNat ≤ 32 ∧ 1 ≤ h.toNat ∧ h.toNat ≤ 15 ∧ e.toNat ≤ 1) →
      Answered s via .badField [] t ∧ UnchangedBut [.engine, .events] s t) ∧
    (2 ≤ d.toNat ∧ d.toNat ≤ 32 ∧ 1 ≤ h.toNat ∧ h.toNat ≤ 15 ∧ e.toNat ≤ 1 →
      UnchangedBut [.engine, .monitor, .events] s t ∧
      (s.monitor.atRest = true →
        Answered s via .ok [d, h, e] t ∧
        (s.monitor.enable = decide (e.toNat = 1) → t.monitor = { s.monitor with
          debounce := d.toNat, healProbes := h.toNat }) ∧
        (s.monitor.enable ≠ decide (e.toNat = 1) → t.monitor = { s.monitor with
          debounce := d.toNat, healProbes := h.toNat, enable := decide (e.toNat = 1)
          state := if e.toNat = 1 then .idle else .off, suspects := [], buffer := none
          inHand := none, entryPosition := 0, checkPosition := 0, healPosition := none })) ∧
      (s.monitor.atRest = false →
        Executing s via 0x12 t ∧ t.monitor = { s.monitor with waiting := s.monitor.waiting ++
          [.setMonitor via d.toNat h.toNat (decide (e.toNat = 1))] }))) ∧
  (∀ s : State, s.refusesWrite .unit = false → s.monitor.nothingOverdue →
    (∃ t, exec .suspects s = .next t ∧ t.events = (s.acceptWrite .unit).events ∧
      (s.monitor.atRest = true →
        Answered s .unit .ok (byte s.monitor.suspects.length ::
          s.monitor.suspects.flatMap suspectBytes) t ∧ UnchangedBut [.engine, .events] s t) ∧
      (s.monitor.atRest = false → Executing s .unit 0x28 t ∧
        t.monitor = { s.monitor with waiting := s.monitor.waiting ++ [.suspects] } ∧
        UnchangedBut [.engine, .monitor, .events] s t)) ∧
    (∃ t, exec .clearSuspects s = .next t ∧ t.events = (s.acceptWrite .unit).events ∧
      UnchangedBut [.engine, .monitor, .events] s t ∧
      (s.monitor.atRest = true →
        Answered s .unit .ok [byte s.monitor.suspects.length] t ∧
        t.monitor = { s.monitor with suspects := [] }) ∧
      (s.monitor.atRest = false → Executing s .unit 0x29 t ∧
        t.monitor = { s.monitor with waiting := s.monitor.waiting ++ [.clearSuspects] })))

/-- R68: at a step point every waiting request is taken, one after another, in the order of arrival (log entry 16), and none is left; R79 to R85: what taking each does, and what the block that waits for it does then. -/
def Obligations.StepPointTakesEveryRequest : Prop :=
  (∀ s : State, s.stepPoint.monitor.waiting = [] ∧
    (s.monitor.waiting = [] → s.stepPoint = s) ∧
    ∀ a rest, s.monitor.waiting = a :: rest →
      s.stepPoint = ((s.withMonitor { s.monitor with waiting := rest }).takeAsk a).stepPoint) ∧
  (∀ s t : State, t = s.takeAsk .emptyList →
    t.monitor = { s.monitor with suspects := [] } ∧ UnchangedBut [.monitor] s t) ∧
  (∀ s t : State, t = s.takeAsk .loadStart →
    t.monitor = { s.monitor with
      state := if s.monitor.state = .off then .off else .idle, inHand := none, buffer := none
      suspects := [], loadMark := true, entryPosition := 0, checkPosition := 0
      healPosition := none } ∧
    UnchangedBut [.monitor, .store] s t ∧
    (s.store.state = .loading → t.store = { s.store with flash := .polling 400 } ∧
      t.out.flash = s.out.flash ++ [⟨[0x05], 1⟩]) ∧
    (s.store.state ≠ .loading → t.store = s.store)) ∧
  (∀ (s t : State) (d h : Nat) (e : Bool), t = s.takeAsk (.loadEnd d h e) →
    t.monitor = { s.monitor with
      debounce := d, healProbes := h, enable := e, loadMark := false
      state := if e = true then .idle else .off } ∧
    UnchangedBut [.monitor, .store, .events] s t ∧
    (∀ w, s.store.work = .loading w →
      (w.ended = some true →
        t.store = ⟨.idle, .loaded, .none, none⟩ ∧ t.events = s.events.raise .storeDone) ∧
      (w.ended ≠ some true →
        t.store = ⟨.idle, .imageBad, .none, none⟩ ∧ t.events = s.events.raise .imageBad)) ∧
    (s.store.state ≠ .loading → t.store = s.store ∧ t.events = s.events)) ∧
  (∀ (s t : State) (via : Via) (d h : Nat) (e : Bool),
    t = s.takeAsk (.setMonitor via d h e) →
    t.engine = { s.engine with
      hand := none
      answer := match via with
        | .unit => some ⟨.ok, [byte d, byte h, if e = true then 1 else 0]⟩
        | .group => s.engine.answer } ∧
    UnchangedBut [.engine, .monitor] s t ∧
    (s.monitor.enable = e → t.monitor = { s.monitor with debounce := d, healProbes := h }) ∧
    (s.monitor.enable ≠ e → t.monitor = { s.monitor with
      debounce := d, healProbes := h, enable := e, state := if e = true then .idle else .off
      suspects := [], buffer := none, inHand := none, entryPosition := 0, checkPosition := 0
      healPosition := none })) ∧
  (∀ (s t : State) (job : Job), s.engine.hand = some job → job.via = .unit →
    (t = s.takeAsk .suspects →
      HandAnswered s .ok
        (byte s.monitor.suspects.length :: s.monitor.suspects.flatMap suspectBytes) t ∧
      UnchangedBut [.engine] s t) ∧
    (t = s.takeAsk .clearSuspects →
      HandAnswered s .ok [byte s.monitor.suspects.length] t ∧
      t.monitor = { s.monitor with suspects := [] } ∧ UnchangedBut [.engine, .monitor] s t))

/-! ## The service port -/

/-- R175, R177, R179, R180: the first data byte of a write; and what acceptance does when a unit write's first byte was not seen apart (log entry 11). -/
def Obligations.FirstByteIsAcknowledgedOrRefused : Prop :=
  (∀ (a : BitVec 7) (b : Byte) (s : State), ∃ t, exec (.requestAccept a b) s = .next t ∧
    (a ≠ 0x58#7 + s.pins.straps.setWidth 7 → a ≠ 0x57#7 →
      t.out.port = [.address false] ∧ UnchangedBut [] s t) ∧
    (a = 0x58#7 + s.pins.straps.setWidth 7 →
      (b = 0xA5#8 → t.out.port = [.address true, .firstByte true] ∧
        t.engine = { s.engine with write := .abortByte } ∧ UnchangedBut [.engine] s t) ∧
      (b ≠ 0xA5#8 → s.engine.hand = none → t.out.port = [.address true, .firstByte true] ∧
        t.engine = ⟨none, none, .unitAccepted⟩ ∧
        t.events = (if s.engine.answer = none then s.events else s.events.raise .answerLost) ∧
        UnchangedBut [.engine, .events] s t) ∧
      (b ≠ 0xA5#8 → s.engine.hand ≠ none → t.out.port = [.address true, .firstByte false] ∧
        t.engine = { s.engine with write := .unitRefused } ∧ UnchangedBut [.engine] s t)) ∧
    (a = 0x57#7 →
      (s.engine.hand = none → t.out.port = [.address true, .firstByte true] ∧
        t.engine = { s.engine with write := .groupAccepted } ∧ UnchangedBut [.engine] s t) ∧
      (s.engine.hand ≠ none → t.out.port = [.address true, .firstByte false] ∧
        t.engine = { s.engine with write := .groupRefused } ∧ UnchangedBut [.engine] s t))) ∧
  (∀ s : State,
    (s.engine.write = .unitAccepted →
      s.acceptWrite .unit = s.withEngine { s.engine with write := .none }) ∧
    (s.engine.write ≠ .unitAccepted → s.engine.answer = none →
      s.acceptWrite .unit = s.withEngine { s.engine with write := .none }) ∧
    (s.engine.write ≠ .unitAccepted → s.engine.answer ≠ none →
      (s.acceptWrite .unit).engine = { s.engine with answer := none, write := .none } ∧
      (s.acceptWrite .unit).events = s.events.raise .answerLost) ∧
    s.acceptWrite .group = s.withEngine { s.engine with write := .none })

/-- R175, R176, R180: the end of a write that carries no executable command; a write that carries one is that command (log entry 11); and which bytes are malformed, unknown or a command of the part, by the checks of R176 in their order and the layouts of R185. That a refused group write has no later data byte acknowledged is log entry 37. -/
def Obligations.WriteEnds : Prop :=
  (∀ (a : BitVec 7) (s : State), s.addressed a =
    if a = 0x58#7 + s.pins.straps.setWidth 7 then some .unit
    else if a = 0x57#7 then some .group else none) ∧
  (∀ (a : BitVec 7) (bytes : List Byte) (s : State),
    ∃ t, exec (.requestWrite a bytes) s = .next t ∧
    (s.addressed a = none → t.out.port = [.address false] ∧ UnchangedBut [] s t) ∧
    ∀ via, s.addressed a = some via →
      (bytes = [] → t.out.port = [.address true] ∧
        t.engine = { s.engine with write := .none } ∧ UnchangedBut [.engine] s t) ∧
      (bytes ≠ [] → ¬ (via = .unit ∧ bytes.head? = some 0xA5#8) → s.refusesWrite via = true →
        t.out.port = s.endItems via 0 ∧ t.engine = { s.engine with write := .none } ∧
        UnchangedBut [.engine] s t) ∧
      (bytes ≠ [] → bytes.head? ≠ some 0xA5#8 → s.refusesWrite via = false → via = .unit →
        (parseRequest .unit bytes = .malformed ∨ parseRequest .unit bytes = .unknown →
          t.out.port = s.endItems .unit (min bytes.length 26) ∧
          Answered s .unit (if parseRequest .unit bytes = .unknown then .unknown else .malformed)
            [] t ∧
          t.events = (s.acceptWrite .unit).events ∧ UnchangedBut [.engine, .events] s t)) ∧
      (bytes ≠ [] → s.refusesWrite via = false → via = .group →
        (parseRequest .group bytes = .malformed ∨ parseRequest .group bytes = .unknown ∨
            takenByGroup (bytes.headD 0) = false →
          t.out.port = s.endItems .group (min bytes.length 26) ∧
          t.engine = { s.engine with write := .none } ∧ UnchangedBut [.engine] s t))) ∧
  (∀ (a : BitVec 7) (bytes : List Byte) (i : Instr) (s : State),
    (s.addressed a = some .unit → parseRequest .unit bytes = .command i →
      exec (.requestWrite a bytes) s = exec i s) ∧
    (s.addressed a = some .group → parseRequest .group bytes = .command i →
      takenByGroup (bytes.headD 0) = true → exec (.requestWrite a bytes) s = exec i s)) ∧
  (∀ (s : State) (n : Nat),
    s.endItems .unit n = (if s.engine.write ∈ [.unitAccepted, .unitRefused, .abortByte]
      then [.acknowledged n] else [.address true, .acknowledged n]) ∧
    s.endItems .group n = (if s.engine.write ∈ [.groupAccepted, .groupRefused]
      then [.acknowledged n] else [.address true, .acknowledged n])) ∧
  (∀ code : Byte, takenByGroup code = true ↔ code.toNat ∈ [0x07, 0x08, 0x11, 0x12, 0x30]) ∧
  (∀ (via : Via) (bytes : List Byte), bytes.length < 2 → parseRequest via bytes = .malformed) ∧
  (∀ (via : Via) (code n : Byte) (params : List Byte) (lengths : List (Nat × Nat)),
    lengths = [(0x01, 0), (0x02, 0), (0x03, 0), (0x04, 2), (0x05, 0), (0x06, 0), (0x07, 0),
      (0x08, 0), (0x10, 2), (0x11, 3), (0x12, 3), (0x20, 15), (0x21, 16), (0x22, 2), (0x23, 2),
      (0x24, 2), (0x25, 12), (0x28, 0), (0x29, 0), (0x30, 0), (0x31, 0)] →
    (24 < n.toNat ∨ params.length ≠ n.toNat →
      parseRequest via (code :: n :: params) = .malformed) ∧
    (n.toNat ≤ 24 → params.length = n.toNat →
      ((∀ len, (code.toNat, len) ∉ lengths) →
        parseRequest via (code :: n :: params) = .unknown) ∧
      (∀ len, (code.toNat, len) ∈ lengths → len ≠ n.toNat →
        parseRequest via (code :: n :: params) = .malformed))) ∧
  (∀ via : Via, parseRequest via [0x01, 0] = .command .describe ∧
    parseRequest via [0x02, 0] = .command .status ∧
    parseRequest via [0x03, 0] = .command .readEvents ∧
    parseRequest via [0x05, 0] = .command .readViolation ∧
    parseRequest via [0x06, 0] = .command .openService ∧
    parseRequest via [0x07, 0] = .command (.closeService via) ∧
    parseRequest via [0x08, 0] = .command (.restart via) ∧
    parseRequest via [0x28, 0] = .command .suspects ∧
    parseRequest via [0x29, 0] = .command .clearSuspects ∧
    parseRequest via [0x30, 0] = .command (.save via) ∧
    parseRequest via [0x31, 0] = .command .load) ∧
  (∀ (via : Via) (x y z : Byte),
    parseRequest via [0x04, 2, x, y] = .command (.setEventMask (x ++ y)) ∧
    parseRequest via [0x10, 2, x, y] = .command (.setGeometry x y) ∧
    parseRequest via [0x11, 3, x, y, z] = .command (.setDrive via (x ++ y) z) ∧
    parseRequest via [0x12, 3, x, y, z] = .command (.setMonitor via x y z) ∧
    parseRequest via [0x22, 2, x, y] = .command (.retire x y) ∧
    parseRequest via [0x23, 2, x, y] = .command (.lookup x y) ∧
    parseRequest via [0x24, 2, x, y] = .command (.next x y)) ∧
  (∀ (via : Via) (sel row col o st rm rh rl gm gh gl bm bh bl th tl : Byte) (i : RecordImage),
    i = ⟨row, col, o, st, ⟨rm, rh ++ rl⟩, ⟨gm, gh ++ gl⟩, ⟨bm, bh ++ bl⟩, th ++ tl⟩ →
    parseRequest via [0x20, 15, row, col, o, st, rm, rh, rl, gm, gh, gl, bm, bh, bl, th, tl] =
      .command (.insert i) ∧
    parseRequest via
        [0x21, 16, sel, row, col, o, st, rm, rh, rl, gm, gh, gl, bm, bh, bl, th, tl] =
      .command (.amend sel i)) ∧
  (∀ (via : Via) (os ss fr lr tp th tl ac vh vl lh ll : Byte),
    parseRequest via [0x25, 12, os, ss, fr, lr, tp, th, tl, ac, vh, vl, lh, ll] =
      .command (.sweep ⟨os, ss, fr, lr, tp, th ++ tl, ac, vh ++ vl, lh ++ ll⟩))

/-- R175, R178, R179, R184: the result codes, and big-endian numbers; a read at the unit address, and at any other; and ABORT, which marks a sweep in hand and does nothing else. -/
def Obligations.ReadsAndAborts : Prop :=
  (∀ x ∈ ([(.ok, 0x00), (.started, 0x01), (.aborted, 0x02), (.endOfTable, 0x03),
      (.malformed, 0x90), (.unknown, 0x91), (.badField, 0x92), (.outOfRange, 0x93),
      (.exists_, 0x94), (.noRecord, 0x95), (.tableFull, 0x96), (.protected_, 0x97),
      (.notPermitted, 0x98), (.storeBusy, 0x99), (.notEmpty, 0x9A)] : List (ResultCode × Byte)),
    x.1.code = x.2) ∧
  (∀ (n : Nat) (w : Word32), (byte n).toNat = n % 256 ∧ be16 n = [byte (n / 256), byte n] ∧
    be32 w = [byte (w.toNat / 16777216), byte (w.toNat / 65536), byte (w.toNat / 256),
      byte w.toNat]) ∧
  (∀ (a : BitVec 7) (n : Nat) (s : State), ∃ t, exec (.answerRead a n) s = .next t ∧
    (s.addressed a ≠ some .unit → t.out.port = [.address false] ∧ UnchangedBut [] s t) ∧
    (s.addressed a = some .unit →
      (∀ x, s.engine.answer = some x →
        t.out.port = [.address true, .sent
          ((x.code.code :: byte x.data.length :: x.data ++ List.replicate n 0xFF#8).take n)] ∧
        t.engine = { s.engine with answer := if n = 0 then some x else none } ∧
        UnchangedBut [.engine] s t) ∧
      (s.engine.answer = none →
        t.out.port = [.address true, .sent
          (List.replicate n (if s.engine.hand = none then 0x81#8 else 0x80#8))] ∧
        UnchangedBut [] s t))) ∧
  (∀ (n : Nat) (s : State), ∃ t, exec (.abort n) s = .next t ∧
    t.out.port = s.endItems .unit 1 ∧ UnchangedBut [.engine] s t ∧
    (∀ job sw, s.engine.hand = some job → job.sweep = some sw →
      t.engine = ⟨some { job with sweep := some { sw with abortMark := true } }, s.engine.answer,
        .none⟩) ∧
    (∀ job, s.engine.hand = some job → job.sweep = none →
      t.engine = { s.engine with write := .none }) ∧
    (s.engine.hand = none → t.engine = { s.engine with write := .none }))

/-- R181, R185: the capability block, byte by byte. -/
def Obligations.DescribeAnswersTheCapabilities : Prop :=
  ∀ s : State, s.refusesWrite .unit = false → ∃ t, exec .describe s = .next t ∧
    Answered s .unit .ok
      ([1, 0x02, 0x00, 16, 48, 127, 255, 0x07, 0xFF, 0x00, 0xFF, 0x0F, 0xFF, 2, 32, 1, 15, 6,
        0, 0, 0, 16, 0, 32, 0, 64, 0, 128, 1, 0, 96] ++
        [byte (s.table.geometry.rows - 1), byte (s.table.geometry.cols - 1)]) t ∧
    t.out.port = s.endItems .unit 2 ∧
    t.events = (s.acceptWrite .unit).events ∧ UnchangedBut [.engine, .events] s t

/-- R171 to R173, R185: a detail key as three bytes; READ_EVENTS copies the flags and keys and clears them, the mask staying; SET_EVENT_MASK writes the mask or refuses it. -/
def Obligations.EventsAreReadAndMasked : Prop :=
  (keyBytes none = [0, 0, 0] ∧ ∀ k : Key, keyBytes (some k) = [1, byte k.row, byte k.col]) ∧
  (∀ s : State, s.refusesWrite .unit = false → ∃ t, exec .readEvents s = .next t ∧
    Answered s .unit .ok (be16 (s.acceptWrite .unit).events.flags.toNat ++
      keyBytes (s.acceptWrite .unit).events.promotedKey ++
      keyBytes (s.acceptWrite .unit).events.healedKey ++
      keyBytes (s.acceptWrite .unit).events.recordFaultKey) t ∧
    t.events = ⟨0, s.events.mask, none, none, none⟩ ∧ t.attnLow = false ∧
    UnchangedBut [.engine, .events] s t) ∧
  (∀ (m : Word16) (s : State), s.refusesWrite .unit = false →
    ∃ t, exec (.setEventMask m) s = .next t ∧ UnchangedBut [.engine, .events] s t ∧
    (m.toNat < 2 ^ 14 →
      Answered s .unit .ok (be16 m.toNat) t ∧
      t.events = { (s.acceptWrite .unit).events with mask := m.setWidth 14 }) ∧
    (2 ^ 14 ≤ m.toNat → Answered s .unit .badField [] t ∧
      t.events = (s.acceptWrite .unit).events))

/-- R169 to R171, R185: the place of each flag in the event word; `raise` sets its own flag and nothing else, which is all of the eleven raises without a key; a raise of PROMOTED, HEALED or RECORD_FAULT writes its own detail key in the same action; and ATTN_N is low exactly while an enabled flag is set. -/
def Obligations.RaiseSetsOneFlag : Prop :=
  (∀ (ev : Events) (n : Nat) (e : Event), ([.promoted, .recordFault, .healed, .suspectFull,
      .tableFull, .reportOverrun, .violation, .storeDone, .storeFault, .imageBad, .answerLost,
      .videoLost, .shortFrame, .serviceClosed] : List Event)[n]? = some e →
    ev.has e = ev.flags.getLsbD n) ∧
  (∀ (ev : Events) (e e' : Event), (ev.raise e).has e' = (decide (e' = e) || ev.has e') ∧
    (ev.raise e).mask = ev.mask ∧ (ev.raise e).promotedKey = ev.promotedKey ∧
    (ev.raise e).healedKey = ev.healedKey ∧ (ev.raise e).recordFaultKey = ev.recordFaultKey) ∧
  (∀ (s : State) (k : Key) (e : Event),
    s.raise e = s.withEvents (s.events.raise e) ∧
    s.raisePromoted k =
      s.withEvents { s.events.raise .promoted with promotedKey := some k } ∧
    s.raiseHealed k = s.withEvents { s.events.raise .healed with healedKey := some k } ∧
    s.raiseRecordFault k =
      s.withEvents { s.events.raise .recordFault with recordFaultKey := some k }) ∧
  ∀ s : State, s.attnLow = true ↔
    ∃ n, n < 14 ∧ s.events.flags.getLsbD n = true ∧ s.events.mask.getLsbD n = true

/-- R149, R150, R153, R154: OPEN_SERVICE follows SVC_EN, in a start-up load by the model's choice (log entry 31), CLOSE_SERVICE lowers the level, and READ_VIOLATION answers and clears. -/
def Obligations.ServiceIsOpenedAndClosed : Prop :=
  ((∀ s : State, s.refusesWrite .unit = false → ∃ t, exec .openService s = .next t ∧
    UnchangedBut [.engine, .access, .events] s t ∧
    (s.pins.svcEn = true → Answered s .unit .ok [1] t ∧
      t.access = { s.access with level := .service } ∧ t.events = (s.acceptWrite .unit).events) ∧
    (s.pins.svcEn = false → Answered s .unit .notPermitted [] t ∧
      ViolationRecorded s.access (s.acceptWrite .unit).events
        ⟨0x06, none, s.access.level, .notPermitted⟩ t)) ∧
  ∀ (via : Via) (s : State), s.refusesWrite via = false →
    ∃ t, exec (.closeService via) s = .next t ∧ Answered s via .ok [0] t ∧
      t.access = { s.access with level := .operator } ∧ t.events = (s.acceptWrite via).events ∧
      UnchangedBut [.engine, .access, .events] s t) ∧
  (∀ s : State, s.refusesWrite .unit = false → ∃ t, exec .readViolation s = .next t ∧
    t.access = ⟨s.access.level, none, 0⟩ ∧ t.events = (s.acceptWrite .unit).events ∧
    UnchangedBut [.engine, .access, .events] s t ∧
    (s.access.violation = none →
      Answered s .unit .ok [0, 0, 0, 0, 0, 0, 0, byte s.access.furtherCount] t) ∧
    (∀ v, s.access.violation = some v →
      Answered s .unit .ok ([1, v.code] ++ keyBytes v.key ++
        [v.level.code, v.refusal.code, byte s.access.furtherCount]) t))

/-- R59: SET_DRIVE writes both settings or neither; and the interval of each code, in frames. -/
def Obligations.SetDriveWritesBothSettings : Prop :=
  (∀ p : ProbeInterval, ([0, 16, 32, 64, 128, 256] : List Nat)[p.code]? = some p.frames) ∧
  ∀ (via : Via) (d : Word16) (i : Byte) (s : State), s.refusesWrite via = false →
    ∃ t, exec (.setDrive via d i) s = .next t ∧ t.events = (s.acceptWrite via).events ∧
    (255 ≤ d.toNat ∧ d.toNat ≤ 4095 ∧ i.toNat ≤ 5 →
      Answered s via .ok (be16 d.toNat ++ [i]) t ∧
      (∃ p : ProbeInterval, p.code = i.toNat ∧
        t.walker = { s.walker with driveMax := d.toNat, probeInterval := p }) ∧
      UnchangedBut [.engine, .walker, .events] s t) ∧
    (¬ (255 ≤ d.toNat ∧ d.toNat ≤ 4095 ∧ i.toNat ≤ 5) →
      Answered s via .badField [] t ∧ UnchangedBut [.engine, .events] s t)

/-- R3, R105, R130, R163, R182, R183: these commands put the engine in EXECUTING and ask for their one table operation, SWEEP for its status read, with the geometry in force kept for its row range (R4). SET_GEOMETRY with too many rows, and LOAD and RESTART while the store is busy, are refused at once. -/
def Obligations.CommandAsksOrIsRefused : Prop :=
  (∀ s : State, s.refusesWrite .unit = false →
    ∀ (c : Instr) (code : Byte) (r : EngineReq),
      ((∃ i, c = .insert i ∧ code = 0x20 ∧ r = .insert i) ∨
        (∃ sel i, c = .amend sel i ∧ code = 0x21 ∧ r = .amend sel i) ∨
        (∃ row col, c = .retire row col ∧ code = 0x22 ∧ r = .remove row col) ∨
        (∃ row col, c = .lookup row col ∧ code = 0x23 ∧ r = .find row col) ∨
        (∃ row col, c = .next row col ∧ code = 0x24 ∧ r = .findFirst row col) ∨
        (c = .status ∧ code = 0x02 ∧ r = .statusRead) ∨
        (∃ rows cols : Byte, c = .setGeometry rows cols ∧ rows.toNat ≤ 127 ∧ code = 0x10 ∧
          r = .geometryChange ⟨rows.toNat + 1, cols.toNat + 1⟩) ∨
        (c = .load ∧ s.store.state = .idle ∧ code = 0x31 ∧ r = .protectionTest)) →
      ∃ t, exec c s = .next t ∧ Executing s .unit code t ∧
        t.arbiter = { s.arbiter with engine := some r }.granted s.access.level ∧
        t.events = (s.acceptWrite .unit).events ∧
        UnchangedBut [.engine, .arbiter, .events] s t) ∧
  (∀ (p : SweepParams) (s : State), s.refusesWrite .unit = false →
    ∃ t, exec (.sweep p) s = .next t ∧
      t.engine = ⟨some ⟨0x25, .unit, some ⟨.starting p s.table.geometry, false⟩⟩,
        (s.acceptWrite .unit).engine.answer, .none⟩ ∧
      t.arbiter = { s.arbiter with engine := some .statusRead }.granted s.access.level ∧
      t.events = (s.acceptWrite .unit).events ∧ UnchangedBut [.engine, .arbiter, .events] s t) ∧
  (∀ s : State, s.refusesWrite .unit = false →
    (∀ rows cols : Byte, 127 < rows.toNat → ∃ t, exec (.setGeometry rows cols) s = .next t ∧
      Answered s .unit .badField [] t ∧ t.events = (s.acceptWrite .unit).events ∧
      UnchangedBut [.engine, .events] s t) ∧
    (s.store.state ≠ .idle → ∃ t, exec .load s = .next t ∧
      Answered s .unit .storeBusy [] t ∧ t.events = (s.acceptWrite .unit).events ∧
      UnchangedBut [.engine, .events] s t)) ∧
  (∀ (via : Via) (s : State), s.refusesWrite via = false → s.store.state ≠ .idle →
    ∃ t, exec (.restart via) s = .next t ∧ Answered s via .storeBusy [] t ∧
      t.events = (s.acceptWrite via).events ∧ UnchangedBut [.engine, .events] s t)

/-- R177, R180: a write is refused while the engine is EXECUTING, at either address, and otherwise exactly after a first byte that was refused or, at the unit address, was an ABORT (log entries 11 and 27); and a command whose write is refused leaves no trace. -/
def Obligations.RefusedWriteLeavesNoTrace : Prop :=
  (∀ s : State,
    (s.engine.hand ≠ none → s.refusesWrite .unit = true ∧ s.refusesWrite .group = true) ∧
    (s.engine.hand = none →
      (s.refusesWrite .unit = true ↔
        s.engine.write = .unitRefused ∨ s.engine.write = .abortByte) ∧
      (s.refusesWrite .group = true ↔ s.engine.write = .groupRefused))) ∧
  ∀ (c : Instr) (via : Via) (s : State), s.refusesWrite via = true →
    (via = .unit → c ∈ [Instr.describe, .status, .readEvents, .readViolation, .openService,
        .suspects, .clearSuspects, .load] ∨ (∃ m, c = .setEventMask m) ∨
      (∃ r q, c = .setGeometry r q) ∨ (∃ i, c = .insert i) ∨ (∃ x i, c = .amend x i) ∨
      (∃ r q, c = .retire r q) ∨ (∃ r q, c = .lookup r q) ∨ (∃ r q, c = .next r q) ∨
      (∃ p, c = .sweep p) ∨ c = .closeService .unit ∨ c = .restart .unit ∨ c = .save .unit ∨
      (∃ d i, c = .setDrive .unit d i) ∨ (∃ d h e, c = .setMonitor .unit d h e)) →
    (via = .group → c = .closeService .group ∨ c = .restart .group ∨ c = .save .group ∨
      (∃ d i, c = .setDrive .group d i) ∨ (∃ d h e, c = .setMonitor .group d h e)) →
    ∃ t, exec c s = .next t ∧ t.out.port = s.endItems via 0 ∧
      t.engine = { s.engine with write := .none } ∧ UnchangedBut [.engine] s t

/-! ## Table commands -/

/-- R12, R111, R113, R128, R185: what INSERT, AMEND and SWEEP may supply, and what they take from their bytes. -/
def Obligations.SuppliedFieldsAreChecked : Prop :=
  (∀ i : RecordImage, (suppliedRecord i).isSome = true ↔
    (i.origin = 1 ∨ i.origin = 2) ∧ (i.status = 0 ∨ i.status = 1) ∧
      ∀ a ∈ [i.red, i.green, i.blue],
        (a.mode = 0 ∧ a.value = 0) ∨ (a.mode = 1 ∧ a.value.toNat ≤ 2047) ∨
          (a.mode = 2 ∧ a.value = 0) ∨ (a.mode = 3 ∧ a.value.toNat ≤ 4095)) ∧
  (∀ (sel : Byte) (i : RecordImage),
    ((amendFields sel i).isSome = true ↔
      1 ≤ sel.toNat ∧ sel.toNat ≤ 63 ∧ (sel.getLsbD 0 = true → (statusOf i.status).isSome) ∧
      (sel.getLsbD 1 = true → (suppliedAction i.red).isSome) ∧
      (sel.getLsbD 2 = true → (suppliedAction i.green).isSome) ∧
      (sel.getLsbD 3 = true → (suppliedAction i.blue).isSome) ∧
      (sel.getLsbD 5 = true → (suppliedOrigin i.origin).isSome)) ∧
    ∀ a, amendFields sel i = some a →
      a.status = (if sel.getLsbD 0 then statusOf i.status else none) ∧
      a.red = (if sel.getLsbD 1 then suppliedAction i.red else none) ∧
      a.green = (if sel.getLsbD 2 then suppliedAction i.green else none) ∧
      a.blue = (if sel.getLsbD 3 then suppliedAction i.blue else none) ∧
      a.tag = (if sel.getLsbD 4 then some i.tag else none) ∧
      a.origin = (if sel.getLsbD 5 then suppliedOrigin i.origin else none)) ∧
  (∀ p : SweepParams,
    ((sweepFields p).isSome = true ↔
      1 ≤ p.originSet.toNat ∧ p.originSet.toNat ≤ 7 ∧ 1 ≤ p.statusSet.toNat ∧
      p.statusSet.toNat ≤ 3 ∧ p.firstRow.toNat ≤ p.lastRow.toNat ∧ p.tagPresence.toNat ≤ 1 ∧
      p.action.toNat ≤ 4 ∧ 1 ≤ p.limit.toNat ∧ p.limit.toNat ≤ 512) ∧
    ∀ f a limit, sweepFields p = some (f, a, limit) →
      f = ⟨p.originSet.getLsbD 0, p.originSet.getLsbD 1, p.originSet.getLsbD 2,
        p.statusSet.getLsbD 0, p.statusSet.getLsbD 1, p.firstRow.toNat, p.lastRow.toNat,
        if p.tagPresence = 1 then some p.tagMatch else none⟩ ∧ limit = p.limit.toNat ∧
      p.action.toNat = (match a with
        | .activate => 0
        | .makeDormant => 1
        | .retire => 2
        | .clearFaults => 3
        | .retag => 4)) ∧
  (∀ b : Byte, statusOf b = if b = 0 then some .active else if b = 1 then some .dormant else none) ∧
  (∀ b : Byte, suppliedOrigin b =
    if b = 1 then some .factory else if b = 2 then some .service else none) ∧
  (∀ a : ActionImage, suppliedAction a =
    if a.mode = 0 ∧ a.value = 0 then some ⟨.pass, 0, false⟩
    else if a.mode = 1 ∧ a.value.toNat ≤ 2047 then some ⟨.trim, a.value.toNat, false⟩
    else if a.mode = 2 ∧ a.value = 0 then some ⟨.mute, 0, false⟩
    else if a.mode = 3 ∧ a.value.toNat ≤ 4095 then some ⟨.hold, a.value.toNat, false⟩
    else none) ∧
  (∀ (i : RecordImage) (p : Persistent), suppliedRecord i = some p ↔
    p.key = ⟨i.row.toNat, i.col.toNat⟩ ∧ suppliedOrigin i.origin = some p.origin ∧
      statusOf i.status = some p.status ∧ suppliedAction i.red = some p.red ∧
      suppliedAction i.green = some p.green ∧ suppliedAction i.blue = some p.blue ∧
      p.tag = i.tag)

/-- R109 to R111: the insert of INSERT, its checks in their order, its answer and its violation. -/
def Obligations.TableInsertChecksAndJoins : Prop :=
  ∀ (s : State) (i : RecordImage) (job : Job),
    s.arbiter.engineOp = some (.insert i) → s.engine.hand = some job → job.via = .unit →
    ∃ t code, exec .tableInsert s = .next t ∧
      code = (if s.table.state = .loading ∨ s.table.saveHold = true then ResultCode.storeBusy
        else if suppliedRecord i = none then .badField
        else if ¬ s.table.geometry.contains ⟨i.row.toNat, i.col.toNat⟩ then .outOfRange
        else if i.origin = 1 ∧ s.arbiter.levelAtGrant = .operator then .protected_
        else if s.table.find ⟨i.row.toNat, i.col.toNat⟩ ≠ none then .exists_
        else if 512 ≤ s.table.records.length then .tableFull else .ok) ∧
      HandAnswered s code (be32 t.table.generation) t ∧ Completed s .engine t ∧
      UnchangedBut [.table, .arbiter, .engine, .access, .events] s t ∧
      (code ≠ .ok → t.table = s.table) ∧
      (∀ p, code = .ok → suppliedRecord i = some p →
        p.key = ⟨i.row.toNat, i.col.toNat⟩ ∧
        t.table.find p.key = some ⟨p, ⟨0, none, none, 0⟩⟩ ∧ OthersKept p.key s.table t.table ∧
        t.table.records.length = s.table.records.length + 1 ∧
        GenerationAdvanced s.table t.table) ∧
      (code = .protected_ → ViolationRecorded s.access s.events
        ⟨0x20, some ⟨i.row.toNat, i.col.toNat⟩, s.arbiter.levelAtGrant, .protected_⟩ t) ∧
      (code ≠ .protected_ → t.access = s.access ∧ t.events = s.events)

/-- R113 to R117: the amend, its checks in their order, the fields it writes, adoption and the markers. -/
def Obligations.TableAmendWritesAndAdopts : Prop :=
  ∀ (s : State) (sel : Byte) (i : RecordImage) (job : Job),
    s.arbiter.engineOp = some (.amend sel i) → s.engine.hand = some job → job.via = .unit →
    ∃ t, exec .tableAmend s = .next t ∧ Completed s .engine t ∧
      UnchangedBut [.table, .arbiter, .engine, .access, .events] s t ∧
      (∀ code, code = (if s.table.state = .loading ∨ s.table.saveHold = true then
            ResultCode.storeBusy
          else if amendFields sel i = none then .badField
          else if ¬ s.table.geometry.contains ⟨i.row.toNat, i.col.toNat⟩ then .outOfRange
          else if s.table.find ⟨i.row.toNat, i.col.toNat⟩ = none then .noRecord
          else .ok) → code ≠ .ok →
        HandAnswered s code (be32 s.table.generation) t ∧ t.table = s.table ∧
        t.access = s.access ∧ t.events = s.events) ∧
      (∀ a r, s.table.state = .ready → s.table.saveHold = false → amendFields sel i = some a →
        s.table.geometry.contains ⟨i.row.toNat, i.col.toNat⟩ →
        s.table.find ⟨i.row.toNat, i.col.toNat⟩ = some r →
        (s.arbiter.levelAtGrant = .operator ∧
            (r.pers.origin = .factory ∨ a.origin = some .factory) →
          HandAnswered s .protected_ (be32 s.table.generation) t ∧ t.table = s.table ∧
          ViolationRecorded s.access s.events
            ⟨0x21, some ⟨i.row.toNat, i.col.toNat⟩, s.arbiter.levelAtGrant, .protected_⟩ t) ∧
        (¬ (s.arbiter.levelAtGrant = .operator ∧
            (r.pers.origin = .factory ∨ a.origin = some .factory)) →
          t.access = s.access ∧ t.events = s.events ∧
          OthersKept ⟨i.row.toNat, i.col.toNat⟩ s.table t.table ∧
          t.table.records.length = s.table.records.length ∧
          ∃ p, t.table.find ⟨i.row.toNat, i.col.toNat⟩ = some ⟨p, r.vol⟩ ∧
            HandAnswered s .ok (be32 t.table.generation ++ recordBytes p ++ volatileBytes r.vol)
              t ∧
            (p = r.pers → SettingsKept s.table t.table) ∧
            (p ≠ r.pers → GenerationAdvanced s.table t.table) ∧
            p.key = r.pers.key ∧ p.status = a.status.getD r.pers.status ∧
            p.tag = a.tag.getD r.pers.tag ∧
            (if r.pers.origin = .detected ∧ (a.red ≠ none ∨ a.green ≠ none ∨ a.blue ≠ none ∨
                a.origin ≠ none) then
              p.origin = a.origin.getD .service ∧
              p.red = { a.red.getD r.pers.red with auto := false } ∧
              p.green = { a.green.getD r.pers.green with auto := false } ∧
              p.blue = { a.blue.getD r.pers.blue with auto := false }
            else
              p.origin = a.origin.getD r.pers.origin ∧ p.red = a.red.getD r.pers.red ∧
              p.green = a.green.getD r.pers.green ∧ p.blue = a.blue.getD r.pers.blue)))

/-- R25, R119: the remove of RETIRE, its checks in their order, its answer and its violation. -/
def Obligations.RemoveChecksAndTakesOut : Prop :=
  ∀ (s : State) (row col : Byte) (job : Job), s.table.lawful →
    s.arbiter.engineOp = some (.remove row col) → s.engine.hand = some job → job.via = .unit →
    ∃ t, exec .remove s = .next t ∧ Completed s .engine t ∧
      UnchangedBut [.table, .arbiter, .engine, .access, .events] s t ∧
      (∀ code, code = (if s.table.state = .loading ∨ s.table.saveHold = true then
            ResultCode.storeBusy
          else if ¬ s.table.geometry.contains ⟨row.toNat, col.toNat⟩ then .outOfRange
          else if s.table.find ⟨row.toNat, col.toNat⟩ = none then .noRecord else .ok) →
        code ≠ .ok →
        HandAnswered s code (be32 s.table.generation) t ∧ t.table = s.table ∧
        t.access = s.access ∧ t.events = s.events) ∧
      (∀ r, s.table.state = .ready → s.table.saveHold = false →
        s.table.geometry.contains ⟨row.toNat, col.toNat⟩ →
        s.table.find ⟨row.toNat, col.toNat⟩ = some r →
        (r.pers.origin = .factory ∧ s.arbiter.levelAtGrant = .operator →
          HandAnswered s .protected_ (be32 s.table.generation) t ∧ t.table = s.table ∧
          ViolationRecorded s.access s.events
            ⟨0x22, some ⟨row.toNat, col.toNat⟩, s.arbiter.levelAtGrant, .protected_⟩ t) ∧
        (¬ (r.pers.origin = .factory ∧ s.arbiter.levelAtGrant = .operator) →
          HandAnswered s .ok (be32 t.table.generation ++ recordBytes r.pers ++
            volatileBytes r.vol) t ∧
          t.table.find ⟨row.toNat, col.toNat⟩ = none ∧
          OthersKept ⟨row.toNat, col.toNat⟩ s.table t.table ∧
          t.table.records.length + 1 = s.table.records.length ∧
          GenerationAdvanced s.table t.table ∧ t.access = s.access ∧ t.events = s.events))

/-- R106, R121, R123, R124: LOOKUP and NEXT answer from one find and change nothing in the table. R185: the record image and the volatile block that they and AMEND and RETIRE answer. -/
def Obligations.LookupAndNextRead : Prop :=
  (∀ p : Persistent, recordBytes p = [byte p.key.row, byte p.key.col,
      (match p.origin with
        | .factory => 1
        | .service => 2
        | .detected => 3),
      (match p.status with
        | .active => 0
        | .dormant => 1)] ++
    [p.red, p.green, p.blue].flatMap (fun a => byte ((match a.mode with
        | .pass => 0
        | .trim => 1
        | .mute => 2
        | .hold => 3) + if a.auto = true then 128 else 0) :: be16 a.value) ++
    be16 p.tag.toNat) ∧
  (∀ v : Volatile, volatileBytes v = [byte v.faultCount] ++
    (match v.lastFault with
      | none => [0, 0, 0, 0, 0, 0]
      | some f => [1, byte (16 * (match f.colour with
          | .red => 0
          | .green => 1
          | .blue => 2) + match f.kind with
          | .openCircuit => 0
          | .shortCircuit => 1)] ++ be32 f.frame) ++
    (match v.probeFrame with
      | none => [0, 0, 0, 0, 0]
      | some f => [1] ++ be32 f) ++ [byte v.healCount]) ∧
  ∀ (s : State) (row col : Byte) (job : Job), s.engine.hand = some job → job.via = .unit →
    (s.arbiter.engineOp = some (.find row col) → s.arbiter.inProgress = some .engine →
      ∃ t, exec .findByKey s = .next t ∧ Completed s .engine t ∧
        UnchangedBut [.arbiter, .engine] s t ∧
        (if s.table.state = .loading then HandAnswered s .storeBusy (be32 s.table.generation) t
        else if ¬ s.table.geometry.contains ⟨row.toNat, col.toNat⟩ then
          HandAnswered s .outOfRange (be32 s.table.generation) t
        else match s.table.find ⟨row.toNat, col.toNat⟩ with
          | none => HandAnswered s .noRecord (be32 s.table.generation) t
          | some r => HandAnswered s .ok
              (be32 s.table.generation ++ recordBytes r.pers ++ volatileBytes r.vol) t)) ∧
    (s.arbiter.engineOp = some (.findFirst row col) →
      ∃ t, exec .findFirstAtOrAfter s = .next t ∧ Completed s .engine t ∧
        UnchangedBut [.arbiter, .engine] s t ∧
        (if s.table.state = .loading then HandAnswered s .storeBusy (be32 s.table.generation) t
        else if 127 < row.toNat then HandAnswered s .outOfRange (be32 s.table.generation) t
        else match s.table.records.find?
            (fun r => ¬ r.pers.key.before ⟨row.toNat, col.toNat⟩) with
          | none => HandAnswered s .endOfTable (be32 s.table.generation) t
          | some r => HandAnswered s .ok
              (be32 s.table.generation ++ recordBytes r.pers ++ volatileBytes r.vol) t))

/-- R22: the status read for STATUS changes nothing in the table, in any table state and whatever the save hold, and its three values stand in the answer together; with the codes of R185 for states, results and levels. That the other items are read in the same step is the model's (log entry 12), and so is the suspect count between two finds of a suspect check (log entry 34). -/
def Obligations.StatusReadAnswersFromOneMoment : Prop :=
  (TableState.ready.code = 0 ∧ TableState.loading.code = 1) ∧
  (WalkerState.idle.code = 0 ∧ WalkerState.walking.code = 1 ∧ WalkerState.waiting.code = 2 ∧
    WalkerState.blank.code = 3) ∧
  (MonitorState.off.code = 0 ∧ MonitorState.idle.code = 1 ∧ MonitorState.processing.code = 2 ∧
    MonitorState.healing.code = 3) ∧
  (StoreState.idle.code = 0 ∧ StoreState.saving.code = 1 ∧ StoreState.loading.code = 2) ∧
  (StoreResult.none.code = 0 ∧ StoreResult.saved.code = 1 ∧ StoreResult.saveFault.code = 2 ∧
    StoreResult.loaded.code = 3 ∧ StoreResult.imageBad.code = 4) ∧
  (AccessLevel.operator.code = 0 ∧ AccessLevel.service.code = 1) ∧
  ∀ (s : State) (job : Job), s.arbiter.engineOp = some .statusRead →
    s.engine.hand = some job → job.via = .unit → job.sweep = none →
    ∃ t, exec .statusRead s = .next t ∧ Completed s .engine t ∧
      UnchangedBut [.arbiter, .engine] s t ∧
      HandAnswered s .ok (be32 s.table.generation ++ be16 s.table.records.length ++
        [s.table.state.code, s.walker.state.code] ++ be32 s.walker.frameNumber ++
        (match s.walker.lastCompleted with
          | none => [0, 0, 0, 0, 0]
          | some f => 1 :: be32 f) ++ be16 s.walker.appliedCount ++
        [s.monitor.state.code, byte s.monitor.suspects.length, s.store.state.code,
          s.store.lastResult.code, s.access.level.code,
          if s.events.flags = 0 then 0 else 1]) t

/-- R3, R84: the geometry change of SET_GEOMETRY. -/
def Obligations.GeometryChangeNeedsAnEmptyTable : Prop :=
  ∀ (s : State) (g : Geometry) (job : Job), s.arbiter.engineOp = some (.geometryChange g) →
    s.engine.hand = some job → job.via = .unit → s.monitor.nothingOverdue →
    ∃ t, exec .geometryChange s = .next t ∧ Completed s .engine t ∧
      UnchangedBut [.table, .arbiter, .engine, .monitor] s t ∧
      (s.table.state = .ready ∧ s.table.records = [] →
        t.table = { s.table with geometry := g } ∧
        HandAnswered s .ok [byte (g.rows - 1), byte (g.cols - 1)] t ∧
        (s.table.geometry = g → t.monitor = s.monitor) ∧
        (s.table.geometry ≠ g → SuspectsCleared s t)) ∧
      (¬ (s.table.state = .ready ∧ s.table.records = []) →
        t.table = s.table ∧ HandAnswered s .notEmpty [] t ∧ t.monitor = s.monitor)

/-- R146, R163: the protection test of LOAD. An accepted load has begin load yet to be asked for (log entry 29), and has read no header, inserted no slot and met no key (R164, R165). -/
def Obligations.ProtectionTestGuardsLoad : Prop :=
  ∀ (s : State) (job : Job), s.arbiter.engineOp = some .protectionTest →
    s.engine.hand = some job → job.via = .unit →
    ∃ t, exec .protectionTest s = .next t ∧
      (s.arbiter.levelAtGrant = .service ∨
          (∀ r ∈ s.table.records, r.pers.origin ≠ .factory) →
        HandAnswered s .started [] t ∧ t.store.state = .loading ∧
        t.store.lastResult = s.store.lastResult ∧ t.store.flash = .none ∧
        t.store.due = some .load ∧
        (∃ hc c, t.store.work = .loading ⟨none, hc, c, 0, none, none⟩) ∧ Completed s .engine t ∧
        UnchangedBut [.arbiter, .engine, .store] s t) ∧
      (¬ (s.arbiter.levelAtGrant = .service ∨
          (∀ r ∈ s.table.records, r.pers.origin ≠ .factory)) →
        HandAnswered s .protected_ [] t ∧ Completed s .engine t ∧
        ViolationRecorded s.access s.events
          ⟨0x31, none, s.arbiter.levelAtGrant, .protected_⟩ t ∧
        UnchangedBut [.arbiter, .engine, .access, .events] s t)

/-! ## Sweeps -/

/-- R130, R131, R136: the start checks of a sweep in their order, and its first step. An action code outside the five is not a persistent one (log entry 15); the geometry of the row range is the one in force when SWEEP was taken (R4 item 4; log entry 32). -/
def Obligations.SweepStartChecks : Prop :=
  ∀ (s : State) (p : SweepParams) (g : Geometry) (mark : Bool),
    s.arbiter.engineOp = some .statusRead →
    s.engine.hand = some ⟨0x25, .unit, some ⟨.starting p g, mark⟩⟩ →
    ∃ t, exec .statusRead s = .next t ∧ UnchangedBut [.arbiter, .engine] s t ∧
      (s.table.state = .loading ∨ s.store.state = .loading ∨
          (p.action.toNat ∈ [0, 1, 2, 4] ∧ s.store.state ≠ .idle) →
        HandAnswered s .storeBusy (be32 s.table.generation) t ∧ Completed s .engine t) ∧
      (s.table.state = .ready → s.store.state ≠ .loading →
        ¬ (p.action.toNat ∈ [0, 1, 2, 4] ∧ s.store.state ≠ .idle) →
        (sweepFields p = none →
          HandAnswered s .badField (be32 s.table.generation) t ∧ Completed s .engine t) ∧
        ∀ f a limit, sweepFields p = some (f, a, limit) →
          (¬ f.lastRow < g.rows ∨ ¬ f.firstRow < g.rows →
            HandAnswered s .outOfRange (be32 s.table.generation) t ∧ Completed s .engine t) ∧
          (f.lastRow < g.rows → f.firstRow < g.rows →
            (mark = true →
              HandAnswered s .aborted (be32 s.table.generation ++
                [2, 0, 0, 0, 0, 0, 0, 0, 0, 0]) t ∧ Completed s .engine t) ∧
            (mark = false →
              t.engine = { s.engine with hand := some ⟨0x25, .unit, some ⟨.stepping
                ⟨f, a, p.actionValue, limit, none, 0, 0, 0, s.table.generation⟩, false⟩⟩ } ∧
              t.arbiter.engine = some (.sweepStep none f a p.actionValue))))

/-- R28, R129, R133, R134: when a record matches the filter; a sweep step on the table, and its outcome. -/
def Obligations.SweepStepActsOnOneRecord : Prop :=
  (∀ (f : SweepFilter) (p : Persistent), f.accepts p = true ↔
    (match p.origin with
      | .factory => f.factory
      | .service => f.service
      | .detected => f.detected) = true ∧
    (match p.status with
      | .active => f.active
      | .dormant => f.dormant) = true ∧
    f.firstRow ≤ p.key.row ∧ p.key.row ≤ f.lastRow ∧ (f.tag = none ∨ f.tag = some p.tag)) ∧
  ∀ (t : Table) (level : AccessLevel) (position : Option Key) (f : SweepFilter)
    (a : SweepAction) (v : Word16), t.lawful →
    (∀ candidate, candidate = t.records.find? (fun r =>
        match position with
        | none => ¬ r.pers.key.before ⟨f.firstRow, 0⟩
        | some k => k.before r.pers.key) →
      (candidate = none ∨ (∃ r, candidate = some r ∧ f.lastRow < r.pers.key.row) →
        t.sweepStep level position f a v = (t, .endOfRange)) ∧
      (∀ r, candidate = some r → r.pers.key.row ≤ f.lastRow →
        (f.accepts r.pers = false →
          t.sweepStep level position f a v = (t, .notMatched r.pers.key)) ∧
        (f.accepts r.pers = true → a ≠ .clearFaults → r.pers.origin = .factory →
          level = .operator → t.sweepStep level position f a v = (t, .skipped r.pers.key)) ∧
        (f.accepts r.pers = true →
          ¬ (a ≠ .clearFaults ∧ r.pers.origin = .factory ∧ level = .operator) →
          ∀ t', t' = (t.sweepStep level position f a v).1 →
          OthersKept r.pers.key t t' ∧
          (a = .retire → (t.sweepStep level position f a v).2 = .changed r.pers.key ∧
            t'.find r.pers.key = none ∧ t'.records.length + 1 = t.records.length ∧
            GenerationAdvanced t t') ∧
          (a ≠ .retire → ∀ r', r' = (match a with
              | .activate => { r with pers := { r.pers with status := .active } }
              | .makeDormant => { r with pers := { r.pers with status := .dormant } }
              | .retag => { r with pers := { r.pers with tag := v } }
              | .clearFaults => { r with vol := ⟨0, none, none, 0⟩ }
              | .retire => r) →
            t'.find r.pers.key = some r' ∧ t'.records.length = t.records.length ∧
            (r' = r → (t.sweepStep level position f a v).2 = .unchanged r.pers.key ∧ t' = t) ∧
            (r' ≠ r → (t.sweepStep level position f a v).2 = .changed r.pers.key ∧
              (a = .clearFaults → SettingsKept t t') ∧
              (a ≠ .clearFaults → GenerationAdvanced t t'))))))

/-- R132, R135 to R137: the engine after a sweep step: the context moves, and the sweep ends or asks for the next step. The abort mark comes first (log entry 19). R185: the sweep answer. -/
def Obligations.SweepStepMovesTheContext : Prop :=
  (∀ (c : SweepContext) (why : StopReason), sweepAnswer c why = be32 c.lastGeneration ++
    [(match why with
      | .endOfRange => 0
      | .limit => 1
      | .abort => 2 : Byte)] ++ be16 c.examined ++ be16 c.changed ++ be16 c.skipped ++
    (match c.position with
      | none => [0, 0, 0]
      | some k => [1, byte k.row, byte k.col])) ∧
  ∀ (s : State) (position : Option Key) (f : SweepFilter) (a : SweepAction) (v : Word16)
    (c : SweepContext) (mark : Bool) (o : SweepOutcome) (c' : SweepContext),
    s.arbiter.engineOp = some (.sweepStep position f a v) →
    s.engine.hand = some ⟨0x25, .unit, some ⟨.stepping c, mark⟩⟩ →
    o = (s.table.sweepStep s.arbiter.levelAtGrant position f a v).2 →
    ∃ t, exec .sweepStep s = .next t ∧
      t.table = (s.table.sweepStep s.arbiter.levelAtGrant position f a v).1 ∧
      UnchangedBut [.table, .arbiter, .engine] s t ∧
      (c' = { c with
          lastGeneration := t.table.generation
          position := (match o with
            | .endOfRange => c.position
            | .notMatched k | .unchanged k | .changed k | .skipped k => some k)
          examined := c.examined + (if o = .endOfRange then 0 else 1)
          changed := c.changed + (match o with
            | .changed _ => 1
            | _ => 0)
          skipped := c.skipped + (match o with
            | .skipped _ => 1
            | _ => 0) } →
        (mark = true →
          HandAnswered s .aborted (sweepAnswer c' .abort) t ∧ Completed s .engine t) ∧
        (mark = false → o = .endOfRange →
          HandAnswered s .ok (sweepAnswer c' .endOfRange) t ∧ Completed s .engine t) ∧
        (mark = false → (∃ k, o = .changed k) → c'.changed = c'.limit →
          HandAnswered s .ok (sweepAnswer c' .limit) t ∧ Completed s .engine t) ∧
        (mark = false → o ≠ .endOfRange → ¬ ((∃ k, o = .changed k) ∧ c'.changed = c'.limit) →
          t.engine = { s.engine with
            hand := some ⟨0x25, .unit, some ⟨.stepping c', false⟩⟩ } ∧
          t.arbiter.engine = some (.sweepStep c'.position c'.filter c'.action c'.value)))

/-! ## The image store -/

/-- R126, R127, R159 to R163: SAVE is accepted with the store IDLE and the table READY, with no sector erased, no record read, an empty page, nothing programmed and no fault; the rows of begin save and begin load ask for their operation if it has yet to be asked for, and it waits while another is in progress (log entry 29); begin save sets the hold and takes the header's values; end save clears the hold and ends the save. -/
def Obligations.SaveIsAcceptedAndFramed : Prop :=
  (∀ (via : Via) (s : State), s.refusesWrite via = false → ∃ t, exec (.save via) s = .next t ∧
    t.events = (s.acceptWrite via).events ∧
    (s.store.state = .idle → s.table.state = .ready →
      Answered s via .started [] t ∧ t.store.state = .saving ∧
      t.store.lastResult = s.store.lastResult ∧ t.store.flash = .none ∧
      t.store.due = some .save ∧
      (∃ c, t.store.work = .saving ⟨none, c, 0, none, [], 0, false, false, false⟩) ∧
      UnchangedBut [.engine, .store, .events] s t) ∧
    (¬ (s.store.state = .idle ∧ s.table.state = .ready) →
      Answered s via .storeBusy [] t ∧ UnchangedBut [.engine, .events] s t)) ∧
  (∀ (s : State) (b : BeginReq) (c : Instr) (r : StoreReq), s.store.due = some b →
    (b = .save ∧ c = .beginSave ∧ r = .beginSave ∨ b = .load ∧ c = .beginLoad ∧ r = .beginLoad) →
    ∃ u, u = (s.withStore { s.store with due := none }).withArbiter
        ({ s.arbiter with store := some r }.granted s.access.level) ∧
      exec c s = exec c u ∧
      (u.arbiter.inProgress ≠ some .store → ∃ t, exec c s = .next t ∧ t.store = u.store ∧
        t.arbiter = u.arbiter ∧ t.out.flash = [] ∧ UnchangedBut [.store, .arbiter] s t)) ∧
  (∀ (s : State) (w : SaveWork), s.arbiter.storeOp = some .beginSave → s.store.work = .saving w →
    s.store.due = none → ∃ t, exec .beginSave s = .next t ∧
      t.table = { s.table with saveHold := true } ∧
      (∀ h : Header, h = ⟨s.table.records.length, s.table.generation, s.table.geometry,
          s.walker.driveMax, s.walker.probeInterval, s.monitor.debounce, s.monitor.healProbes,
          s.monitor.enable⟩ →
        t.store = ⟨.saving { w with header := some h, crc := crcOver 0xFFFF#16 (headerFields h) },
          s.store.lastResult, .polling 400, none⟩) ∧
      t.out.flash = [⟨[0x05], 1⟩] ∧ Completed s .store t ∧
      UnchangedBut [.table, .arbiter, .store] s t) ∧
  (∀ (s : State) (w : SaveWork), s.arbiter.storeOp = some .endSave → s.store.work = .saving w →
    ∃ t, exec .endSave s = .next t ∧ t.table = { s.table with saveHold := false } ∧
      t.store = ⟨.idle, if w.faulted then .saveFault else .saved, .none, none⟩ ∧
      t.events = s.events.raise (if w.faulted then .storeFault else .storeDone) ∧
      t.out.flash = [] ∧ Completed s .store t ∧
      UnchangedBut [.table, .arbiter, .store, .events] s t)

/-- R31, R161: a save read fills the page; a full page, the last page and the header are programmed in turn, each after write enable. -/
def Obligations.SaveReadFillsPages : Prop :=
  ∀ (s : State) (position : Option Key) (w : SaveWork) (h : Header),
    s.arbiter.storeOp = some (.saveRead position) → s.store.work = .saving w → w.erased = 3 →
    w.header = some h → w.headerProgrammed = false → w.recordsEnded = false →
    w.page.length < 256 →
    ∃ t, exec .saveRead s = .next t ∧ UnchangedBut [.arbiter, .store] s t ∧
      t.store.lastResult = s.store.lastResult ∧
      (∀ r, s.table.records.find? (fun r => aheadOf position r.pers.key) = some r →
        t.store.work = .saving { w with
          page := w.page ++ slotBytes r.pers
          crc := crcOver w.crc (slotBytes r.pers)
          position := some r.pers.key } ∧
        (w.page.length + 16 < 256 → t.store.flash = .none ∧ t.out.flash = [] ∧
          t.arbiter.store = some (.saveRead (some r.pers.key))) ∧
        (256 ≤ w.page.length + 16 → t.out.flash = [⟨[0x06], 0⟩] ∧ t.arbiter.store = none ∧
          t.store.flash = .enabling (.program (256 + 256 * w.pagesProgrammed)
            (w.page ++ slotBytes r.pers)))) ∧
      (s.table.records.find? (fun r => aheadOf position r.pers.key) = none →
        t.store.work = .saving { w with recordsEnded := true } ∧
        t.out.flash = [⟨[0x06], 0⟩] ∧ t.arbiter.store = none ∧
        t.store.flash = .enabling (if w.page = [] then .program 0 (headerBytes h w.crc)
          else .program (256 + 256 * w.pagesProgrammed) w.page))

/-- R30, R85, R164, R166: begin load empties the table and sends load start; end load, with success or failure, makes it READY and sends load end with the monitor's settings, which, the monitor being at rest, ends the store's operation. The walker's settings are written here, after a failure for the first time, after a success for the second, over a SET_DRIVE taken since end load was asked for (`LoadGoesOn`, log entries 13 and 35). -/
def Obligations.LoadIsFramed : Prop :=
  (∀ s : State, s.arbiter.storeOp = some .beginLoad → s.monitor.nothingOverdue →
    s.store.due = none →
    ∃ t, exec .beginLoad s = .next t ∧
      t.table = { s.table with records := [], state := .loading, generation := 0 } ∧
      Completed s .store t ∧ UnchangedBut [.table, .arbiter, .monitor, .store] s t ∧
      (s.monitor.atRest = true →
        t.monitor = { s.monitor with
          state := if s.monitor.state = .off then .off else .idle, inHand := none, buffer := none
          suspects := [], loadMark := true, entryPosition := 0, checkPosition := 0
          healPosition := none } ∧
        (∀ w, s.store.work = .loading w →
          t.store = { s.store with flash := .polling 400 } ∧ t.out.flash = [⟨[0x05], 1⟩])) ∧
      (s.monitor.atRest = false →
        t.monitor = { s.monitor with waiting := s.monitor.waiting ++ [.loadStart] } ∧
        t.store = s.store)) ∧
  (∀ (s : State) (g : Word32) (w : LoadWork) (h : Header),
    s.arbiter.storeOp = some (.endLoadSuccess g) → s.store.work = .loading w →
    w.header = some h → s.monitor.waiting = [] →
    ∃ t, exec .endLoad s = .next t ∧
      t.table = { s.table with state := .ready, generation := g } ∧
      t.walker = { s.walker with driveMax := h.driveMax, probeInterval := h.probeInterval } ∧
      Completed s .store t ∧
      UnchangedBut [.table, .arbiter, .walker, .monitor, .store, .events] s t ∧
      (s.monitor.atRest = true →
        t.monitor = { s.monitor with
          debounce := h.debounce, healProbes := h.healProbes, enable := h.enable
          loadMark := false, state := if h.enable then .idle else .off } ∧
        t.store = ⟨.idle, .loaded, .none, none⟩ ∧ t.events = s.events.raise .storeDone) ∧
      (s.monitor.atRest = false →
        t.monitor = { s.monitor with waiting := [.loadEnd h.debounce h.healProbes h.enable] } ∧
        t.store = { s.store with work := .loading { w with ended := some true } } ∧
        t.events = s.events)) ∧
  (∀ (s : State) (w : LoadWork),
    s.arbiter.storeOp = some .endLoadFailure → s.store.work = .loading w →
    s.monitor.waiting = [] →
    ∃ t, exec .endLoad s = .next t ∧
      t.table = ⟨[], 0, .ready, s.table.saveHold, ⟨128, 256⟩⟩ ∧
      t.walker = { s.walker with driveMax := 4095, probeInterval := .every64 } ∧
      Completed s .store t ∧
      UnchangedBut [.table, .arbiter, .walker, .monitor, .store, .events] s t ∧
      (s.monitor.atRest = true →
        t.monitor = { s.monitor with
          debounce := 4, healProbes := 3, enable := true, loadMark := false, state := .idle } ∧
        t.store = ⟨.idle, .imageBad, .none, none⟩ ∧ t.events = s.events.raise .imageBad) ∧
      (s.monitor.atRest = false →
        t.monitor = { s.monitor with waiting := [.loadEnd 4 3 true] } ∧
        t.store = { s.store with work := .loading { w with ended := some false } } ∧
        t.events = s.events))

/-- R30, R32, R60, R165, R166: load geometry on the table that begin load has emptied, load insert, and how the load goes on. -/
def Obligations.ImageRecordsAreInserted : Prop :=
  (∀ (s : State) (g : Geometry) (w : LoadWork) (h : Header),
    s.arbiter.storeOp = some (.loadGeometry g) → s.store.work = .loading w →
    w.header = some h → s.table.records = [] →
    ∃ t, exec .loadGeometry s = .next t ∧ t.table = { s.table with geometry := g } ∧
      t.store.work = s.store.work ∧ LoadGoesOn s w h t ∧
      UnchangedBut [.table, .arbiter, .store, .walker] s t) ∧
  (∀ (s : State) (p : Persistent) (w : LoadWork) (h : Header),
    s.arbiter.storeOp = some (.loadInsert p) → s.store.work = .loading w → w.header = some h →
    s.table.state = .loading → s.table.find p.key = none → s.table.records.length < 512 →
    ∃ t, exec .loadInsert s = .next t ∧ SettingsKept s.table t.table ∧
      OthersKept p.key s.table t.table ∧ UnchangedBut [.table, .arbiter, .store, .walker] s t ∧
      (s.table.geometry.contains p.key →
        t.table.find p.key = some ⟨p, ⟨0, none, none, 0⟩⟩ ∧
        t.table.records.length = s.table.records.length + 1 ∧
        t.store.work = .loading { w with slots := w.slots + 1, lastKey := some p.key } ∧
        LoadGoesOn s { w with slots := w.slots + 1 } h t) ∧
      (¬ s.table.geometry.contains p.key →
        t.table = s.table ∧ t.store.work = s.store.work ∧ t.store.flash = .none ∧
        t.walker = s.walker ∧ t.arbiter.store = some .endLoadFailure))

/-- R157, R160 to R162: what each flash transaction, and a flash timeout, leads to in a save or a load, with the bytes sent and how many are read back; out of turn each of the six rows changes nothing (log entry 25). -/
def Obligations.FlashTransactionsLeadOn : Prop :=
  (∀ a : Nat, flashAddress a = [byte (a / 65536), byte (a / 256), byte a]) ∧
  (∀ (b : Byte) (s : State), ∃ t, exec (.readStatus b) s = .next t ∧
    UnchangedBut [.store, .arbiter] s t ∧
    (∀ n, s.store.flash = .polling n →
      (b.getLsbD 0 = true → t.store = s.store ∧ t.out.flash = [⟨[0x05], 1⟩] ∧
        t.arbiter = s.arbiter) ∧
      (∀ w, b.getLsbD 0 = false → s.store.work = .loading w →
        t.store = { s.store with flash := .reading 0 32 } ∧
        t.out.flash = [⟨0x03 :: flashAddress 0, 32⟩] ∧
        t.arbiter = s.arbiter) ∧
      (∀ w, b.getLsbD 0 = false → s.store.work = .saving w →
        t.store.work = s.store.work ∧
        (w.erased < 3 → t.store.flash = .enabling (.erase (4096 * w.erased)) ∧
          t.out.flash = [⟨[0x06], 0⟩] ∧ t.arbiter = s.arbiter) ∧
        (3 ≤ w.erased → w.headerProgrammed = true → t.store.flash = .none ∧
          t.out.flash = [] ∧ t.arbiter.store = some .endSave) ∧
        (3 ≤ w.erased → w.headerProgrammed = false → w.recordsEnded = false → w.page = [] →
          t.store.flash = .none ∧ t.out.flash = [] ∧
          t.arbiter.store = some (.saveRead w.position)) ∧
        (∀ h, 3 ≤ w.erased → w.headerProgrammed = false → w.recordsEnded = true → w.page = [] →
          w.header = some h → t.store.flash = .enabling (.program 0 (headerBytes h w.crc)) ∧
          t.out.flash = [⟨[0x06], 0⟩] ∧ t.arbiter = s.arbiter))) ∧
    ((∀ n, s.store.flash ≠ .polling n) → t.store = s.store ∧ t.out.flash = [] ∧
      t.arbiter = s.arbiter)) ∧
  (∀ s : State, ∃ t, exec .writeEnable s = .next t ∧ UnchangedBut [.store] s t ∧
    (∀ a, s.store.flash = .enabling (.erase a) → t.out.flash = [⟨0x20 :: flashAddress a, 0⟩] ∧
      t.store = { s.store with flash := .running (.erase a) }) ∧
    (∀ a x, s.store.flash = .enabling (.program a x) →
      t.out.flash = [⟨0x02 :: (flashAddress a ++ x), 0⟩] ∧
      t.store = { s.store with flash := .running (.program a x) }) ∧
    ((∀ c, s.store.flash ≠ .enabling c) → t.store = s.store ∧ t.out.flash = [])) ∧
  (∀ (s : State) (w : SaveWork), s.store.work = .saving w →
    (∀ a, s.store.flash = .running (.erase a) → ∃ t, exec .sectorErase s = .next t ∧
      t.store = { s.store with
        work := .saving { w with erased := w.erased + 1 }, flash := .polling 400 } ∧
      t.out.flash = [⟨[0x05], 1⟩] ∧ UnchangedBut [.store] s t) ∧
    (∀ a x, s.store.flash = .running (.program a x) → ∃ t, exec .pageProgram s = .next t ∧
      t.store = { s.store with
        work := .saving (if a = 0 then { w with headerProgrammed := true }
          else { w with page := [], pagesProgrammed := w.pagesProgrammed + 1 })
        flash := .polling 5 } ∧
      t.out.flash = [⟨[0x05], 1⟩] ∧ UnchangedBut [.store] s t) ∧
    (∀ n, s.store.flash = .polling n → ∃ t, exec .flashTimeout s = .next t ∧
      t.store = { s.store with work := .saving { w with faulted := true }, flash := .none } ∧
      t.arbiter.store = some .endSave ∧ t.out.flash = [] ∧
      UnchangedBut [.store, .arbiter] s t)) ∧
  (∀ (s : State) (w : LoadWork) (n : Nat), s.store.work = .loading w →
    s.store.flash = .polling n → ∃ t, exec .flashTimeout s = .next t ∧
      t.store = { s.store with flash := .none } ∧ t.arbiter.store = some .endLoadFailure ∧
      t.out.flash = [] ∧ UnchangedBut [.store, .arbiter] s t) ∧
  (∀ s : State,
    (¬ (∃ a w, s.store.flash = .running (.erase a) ∧ s.store.work = .saving w) →
      NothingHappens .sectorErase s) ∧
    (¬ (∃ a x w, s.store.flash = .running (.program a x) ∧ s.store.work = .saving w) →
      NothingHappens .pageProgram s) ∧
    (∀ bytes : List Byte,
      ¬ (∃ a w, s.store.flash = .reading a bytes.length ∧ s.store.work = .loading w) →
      NothingHappens (.readData bytes) s) ∧
    ((∀ n, s.store.flash ≠ .polling n) ∨ s.store.work = .idle →
      NothingHappens .flashTimeout s))

/-- R13, R158, R164, R165, R185: the header and each slot read from the flash are checked, with the CRC bit by bit, and lead to load geometry, to a load insert or to the failure of the load. -/
def Obligations.ImageBytesAreChecked : Prop :=
  (∀ (s : State) (w : LoadWork) (bytes : List Byte) (a : Nat),
    s.store.work = .loading w → s.store.flash = .reading a bytes.length →
    ∃ t, exec (.readData bytes) s = .next t ∧ UnchangedBut [.store, .arbiter] s t ∧
      t.store.flash = .none ∧ t.out.flash = [] ∧ t.store.lastResult = s.store.lastResult ∧
      (w.header = none →
        (headerOfBytes bytes = none →
          t.arbiter.store = some .endLoadFailure ∧ t.store.work = s.store.work) ∧
        (∀ h, headerOfBytes bytes = some h →
          t.arbiter.store = some (.loadGeometry h.geometry) ∧
          t.store.work = .loading { w with
            header := some h
            headerCrc := word16 (bytes.getD 30 0) (bytes.getD 31 0)
            crc := crcOver 0xFFFF#16 (bytes.take 30) })) ∧
      (w.header ≠ none →
        (slotRecord bytes = none →
          t.arbiter.store = some .endLoadFailure ∧ t.store.work = s.store.work) ∧
        (∀ p, slotRecord bytes = some p →
          ((∀ k, w.lastKey = some k → k.before p.key) →
            t.arbiter.store = some (.loadInsert p) ∧
            t.store.work = .loading { w with crc := crcOver w.crc bytes }) ∧
          (¬ (∀ k, w.lastKey = some k → k.before p.key) →
            t.arbiter.store = some .endLoadFailure ∧ t.store.work = s.store.work)))) ∧
  (∀ bytes : List Byte, bytes.length = 32 →
    ((headerOfBytes bytes).isSome = true ↔
      bytes.getD 0 0 = 0x5C ∧ bytes.getD 1 0 = 0x01 ∧
      (word16 (bytes.getD 2 0) (bytes.getD 3 0)).toNat ≤ 512 ∧ (bytes.getD 8 0).toNat ≤ 127 ∧
      255 ≤ (word16 (bytes.getD 10 0) (bytes.getD 11 0)).toNat ∧
      (word16 (bytes.getD 10 0) (bytes.getD 11 0)).toNat ≤ 4095 ∧
      (bytes.getD 12 0).toNat ≤ 5 ∧ 2 ≤ (bytes.getD 13 0).toNat ∧
      (bytes.getD 13 0).toNat ≤ 32 ∧ 1 ≤ (bytes.getD 14 0).toNat ∧
      (bytes.getD 14 0).toNat ≤ 15 ∧ (bytes.getD 15 0).toNat ≤ 1)) ∧
  (∀ bytes : List Byte, bytes.length ≠ 32 → headerOfBytes bytes = none) ∧
  (∀ (bytes : List Byte) (h : Header), headerOfBytes bytes = some h →
    h.count = (word16 (bytes.getD 2 0) (bytes.getD 3 0)).toNat ∧
    h.generation = bytes.getD 4 0 ++ bytes.getD 5 0 ++ bytes.getD 6 0 ++ bytes.getD 7 0 ∧
    h.geometry = ⟨(bytes.getD 8 0).toNat + 1, (bytes.getD 9 0).toNat + 1⟩ ∧
    h.driveMax = (word16 (bytes.getD 10 0) (bytes.getD 11 0)).toNat ∧
    h.probeInterval.code = (bytes.getD 12 0).toNat ∧ h.debounce = (bytes.getD 13 0).toNat ∧
    h.healProbes = (bytes.getD 14 0).toNat ∧ (h.enable = true ↔ bytes.getD 15 0 = 1)) ∧
  (∀ x y : Byte, word16 x y = x ++ y) ∧
  (∀ (i : RecordImage) (p : Persistent), imageRecord i = some p → p.valid = true) ∧
  (∀ p : Persistent, p.valid = true ↔
    (∀ a ∈ [p.red, p.green, p.blue],
      (match a.mode with
        | .pass | .mute => a.value = 0
        | .trim => a.value ≤ 2047
        | .hold => a.value ≤ 4095) ∧
      (a.auto = true → a.mode = .mute ∧ p.origin = .detected)) ∧
    (p.origin = .detected → ∃ a ∈ [p.red, p.green, p.blue], a.auto = true)) ∧
  (∀ (row col o st rm rh rl gm gh gl bm bh bl th tl pad : Byte) (p : Persistent),
    slotRecord [row, col, o, st, rm, rh, rl, gm, gh, gl, bm, bh, bl, th, tl, pad] = some p ↔
      pad = 0 ∧ p.key = ⟨row.toNat, col.toNat⟩ ∧
      o = (match p.origin with
        | .factory => 1
        | .service => 2
        | .detected => 3) ∧
      st = (match p.status with
        | .active => 0
        | .dormant => 1) ∧
      (∀ x ∈ [(p.red, rm, rh, rl), (p.green, gm, gh, gl), (p.blue, bm, bh, bl)],
        x.1.value = (x.2.2.1 ++ x.2.2.2).toNat ∧
        x.2.1.toNat = (if x.1.auto = true then 128 else 0) + (match x.1.mode with
          | .pass => 0
          | .trim => 1
          | .mute => 2
          | .hold => 3) ∧
        (match x.1.mode with
          | .pass | .mute => x.1.value = 0
          | .trim => x.1.value ≤ 2047
          | .hold => x.1.value ≤ 4095) ∧
        (x.1.auto = true → x.1.mode = .mute ∧ p.origin = .detected)) ∧
      (p.origin = .detected →
        p.red.auto = true ∨ p.green.auto = true ∨ p.blue.auto = true) ∧
      p.tag = th ++ tl) ∧
  (∀ (c : Word16) (b : Byte) (bytes : List Byte), crcOver c [] = c ∧
    crcOver c (b :: bytes) = crcOver (([7, 6, 5, 4, 3, 2, 1, 0] : List Nat).foldl (fun x n =>
      if x.getLsbD 15 = b.getLsbD n then x <<< 1 else (x <<< 1) ^^^ 0x1021#16) c) bytes) ∧
  crcOver 0xFFFF#16 [0x31, 0x32, 0x33, 0x34, 0x35, 0x36, 0x37, 0x38, 0x39] = 0x29B1#16

/-- R158, R185: what a save writes, a load reads back: every valid record of a slot, and every header with its CRC. -/
def Obligations.ImageReadsBack : Prop :=
  (∀ (h : Header) (crc : Word16), headerFields h = [0x5C, 0x01] ++ be16 h.count ++
      be32 h.generation ++ [byte (h.geometry.rows - 1), byte (h.geometry.cols - 1)] ++
      be16 h.driveMax ++ [byte h.probeInterval.code, byte h.debounce, byte h.healProbes,
        if h.enable = true then 1 else 0] ++ List.replicate 14 0 ∧
    headerBytes h crc = headerFields h ++ be16 crc.toNat) ∧
  (∀ p : Persistent, slotBytes p = recordBytes p ++ [0]) ∧
  (∀ p : Persistent, p.valid = true → p.key.row < 128 → p.key.col < 256 →
    slotRecord (slotBytes p) = some p ∧ (slotBytes p).length = 16) ∧
  (∀ (h : Header) (crc : Word16), h.count ≤ 512 → 1 ≤ h.geometry.rows → h.geometry.rows ≤ 128 →
    1 ≤ h.geometry.cols → h.geometry.cols ≤ 256 → 255 ≤ h.driveMax → h.driveMax ≤ 4095 →
    2 ≤ h.debounce → h.debounce ≤ 32 → 1 ≤ h.healProbes → h.healProbes ≤ 15 →
    headerOfBytes (headerBytes h crc) = some h ∧ storedCrc (headerBytes h crc) = crc ∧
      (headerBytes h crc).length = 32)

/-! ## Laws that every step keeps -/

/-- R17: the table stays in raster order, without two records of one key, within 512 records, and with every key inside the geometry. -/
def Obligations.TableStaysLawful : Prop :=
  ∀ s t : State, s.table.lawful → step s = .next t → t.table.lawful

/-- R7, R8: every record keeps its actions in range and the auto-marker laws, whoever wrote it. -/
def Obligations.RecordsStayValid : Prop :=
  ∀ s t : State, RecordsValid s → step s = .next t → RecordsValid t

/-- R68, R69: the suspect list keeps its laws, and a monitor at rest keeps no request waiting. -/
def Obligations.MonitorStaysLawful : Prop :=
  ∀ s t : State, s.monitor.suspectsLawful → s.monitor.nothingOverdue → step s = .next t →
    t.monitor.suspectsLawful ∧ t.monitor.nothingOverdue

/-- R2, R42, R65: the geometry, DRIVE_MAX, DEBOUNCE and HEAL_PROBES stay in their ranges, whoever writes them, and the applied counts stay at most 512, the last by the model's choice where R42 and R50 conflict (log entry 30). -/
def Obligations.SettingsStayInRange : Prop :=
  ∀ s t : State, s.settingsLawful → step s = .next t → t.settingsLawful

/-- R19, R20, R147: a free store is granted in the order walker, image store, fault monitor, command engine among the clients that ask, and the operation reads the access level there; a request made, and an operation complete, lead to the next grant; no other row interrupts the operation in progress or moves its level, but for the resets (a REQUEST_WRITE that carries RESTART is that row). And R147, R152, R20: SERVICE only while SVC_EN is asserted, the further-count only with a violation record, and a free store means that nobody waits. -/
def Obligations.AccessAndArbiterStayLawful : Prop :=
  (∀ (a : Arbiter) (level : AccessLevel),
    (a.inProgress ≠ none → a.granted level = a) ∧
    (a.inProgress = none →
      (a.walker ≠ none → a.granted level =
        { a with inProgress := some .walker, levelAtGrant := level }) ∧
      (a.walker = none → a.store ≠ none → a.granted level =
        { a with inProgress := some .store, levelAtGrant := level }) ∧
      (a.walker = none → a.store = none → a.monitor ≠ none → a.granted level =
        { a with inProgress := some .monitor, levelAtGrant := level }) ∧
      (a.walker = none → a.store = none → a.monitor = none → a.engine ≠ none →
        a.granted level = { a with inProgress := some .engine, levelAtGrant := level }) ∧
      (a.walker = none → a.store = none → a.monitor = none → a.engine = none →
        a.granted level = a)) ∧
    a.released .walker = { a with walker := none, inProgress := none } ∧
    a.released .store = { a with store := none, inProgress := none } ∧
    a.released .monitor = { a with monitor := none, inProgress := none } ∧
    a.released .engine = { a with engine := none, inProgress := none } ∧
    a.walkerOp = (if a.inProgress = some .walker then a.walker else none) ∧
    a.storeOp = (if a.inProgress = some .store then a.store else none) ∧
    a.monitorOp = (if a.inProgress = some .monitor then a.monitor else none) ∧
    a.engineOp = (if a.inProgress = some .engine then a.engine else none)) ∧
  (∀ s : State,
    (∀ r, s.askWalker r =
      s.withArbiter ({ s.arbiter with walker := some r }.granted s.access.level)) ∧
    (∀ r, s.askStore r =
      s.withArbiter ({ s.arbiter with store := some r }.granted s.access.level)) ∧
    (∀ r, s.askMonitor r =
      s.withArbiter ({ s.arbiter with monitor := some r }.granted s.access.level)) ∧
    (∀ r, s.askEngine r =
      s.withArbiter ({ s.arbiter with engine := some r }.granted s.access.level)) ∧
    ∀ c t, s.complete c t =
      (s.withTable t).withArbiter ((s.arbiter.released c).granted s.access.level)) ∧
  (∀ (c : Instr) (s t : State), exec c s = .next t → s.arbiter.inProgress ≠ none →
    (∀ a, c ≠ .hardReset a) → (∀ via, c ≠ .restart via) → (∀ a x, c ≠ .requestWrite a x) →
    c ∉ [Instr.findByKey, .findFirstAtOrAfter, .tableInsert, .promotionInsert, .tableAmend,
      .remove, .faultUpdate, .stampProbeFrame, .sweepStep, .healStep, .statusRead,
      .geometryChange, .protectionTest, .beginSave, .saveRead, .endSave, .beginLoad,
      .loadGeometry, .loadInsert, .endLoad] →
    t.arbiter.inProgress = s.arbiter.inProgress ∧
      t.arbiter.levelAtGrant = s.arbiter.levelAtGrant) ∧
  ∀ s t : State, step s = .next t →
    (s.accessLawful → t.accessLawful) ∧ (s.arbiter.lawful → t.arbiter.lawful)

/-- R36: under the save hold no record joins or leaves and no persistent field or generation number changes. R36 and R130 keep a load's operations and a persistent sweep away from the hold; a first operation that has yet to be asked for (log entry 29) is no part of it. -/
def Obligations.SaveHoldFreezesTheTable : Prop :=
  ∀ (c : Instr) (s t : State), s.table.lawful → s.table.saveHold = true → exec c s = .next t →
    (∀ a, c ≠ .hardReset a) →
    s.store.due = none →
    (∀ r, s.arbiter.storeOp = some r → r = .endSave ∨ ∃ p, r = .saveRead p) →
    (∀ p f a v, s.arbiter.engineOp = some (.sweepStep p f a v) → a = .clearFaults) →
    t.table.records.map Record.pers = s.table.records.map Record.pers ∧
      t.table.generation = s.table.generation

/-- R39, R61, R86, R155: the machine after reset keeps every law above. The frame latches and the running count are log entry 5, the report latches log entry 6. -/
def Obligations.ResetKeepsTheLaws : Prop :=
  State.reset.table.lawful ∧ RecordsValid State.reset ∧ State.reset.monitor.suspectsLawful ∧
    State.reset.monitor.nothingOverdue ∧ State.reset.settingsLawful ∧
    State.reset.accessLawful ∧ State.reset.arbiter.lawful
end

