-- ==== Sys2Proof/Laws/State.lean ====
section
/-! SUPPORT. What each named update of State changes and leaves. -/
namespace Sys2Proof.Machine

@[simp] theorem State.withTable_table (s : State) (x : Table) : (s.withTable x).table = x := rfl
@[simp] theorem State.withTable_arbiter (s : State) (x : Table) : (s.withTable x).arbiter = s.arbiter := rfl
@[simp] theorem State.withTable_walker (s : State) (x : Table) : (s.withTable x).walker = s.walker := rfl
@[simp] theorem State.withTable_monitor (s : State) (x : Table) : (s.withTable x).monitor = s.monitor := rfl
@[simp] theorem State.withTable_engine (s : State) (x : Table) : (s.withTable x).engine = s.engine := rfl
@[simp] theorem State.withTable_access (s : State) (x : Table) : (s.withTable x).access = s.access := rfl
@[simp] theorem State.withTable_store (s : State) (x : Table) : (s.withTable x).store = s.store := rfl
@[simp] theorem State.withTable_events (s : State) (x : Table) : (s.withTable x).events = s.events := rfl
@[simp] theorem State.withTable_pins (s : State) (x : Table) : (s.withTable x).pins = s.pins := rfl
@[simp] theorem State.withTable_out (s : State) (x : Table) : (s.withTable x).out = s.out := rfl
@[simp] theorem State.withTable_pending (s : State) (x : Table) : (s.withTable x).pending = s.pending := rfl

@[simp] theorem State.withArbiter_table (s : State) (x : Arbiter) : (s.withArbiter x).table = s.table := rfl
@[simp] theorem State.withArbiter_arbiter (s : State) (x : Arbiter) : (s.withArbiter x).arbiter = x := rfl
@[simp] theorem State.withArbiter_walker (s : State) (x : Arbiter) : (s.withArbiter x).walker = s.walker := rfl
@[simp] theorem State.withArbiter_monitor (s : State) (x : Arbiter) : (s.withArbiter x).monitor = s.monitor := rfl
@[simp] theorem State.withArbiter_engine (s : State) (x : Arbiter) : (s.withArbiter x).engine = s.engine := rfl
@[simp] theorem State.withArbiter_access (s : State) (x : Arbiter) : (s.withArbiter x).access = s.access := rfl
@[simp] theorem State.withArbiter_store (s : State) (x : Arbiter) : (s.withArbiter x).store = s.store := rfl
@[simp] theorem State.withArbiter_events (s : State) (x : Arbiter) : (s.withArbiter x).events = s.events := rfl
@[simp] theorem State.withArbiter_pins (s : State) (x : Arbiter) : (s.withArbiter x).pins = s.pins := rfl
@[simp] theorem State.withArbiter_out (s : State) (x : Arbiter) : (s.withArbiter x).out = s.out := rfl
@[simp] theorem State.withArbiter_pending (s : State) (x : Arbiter) : (s.withArbiter x).pending = s.pending := rfl

@[simp] theorem State.withWalker_table (s : State) (x : Walker) : (s.withWalker x).table = s.table := rfl
@[simp] theorem State.withWalker_arbiter (s : State) (x : Walker) : (s.withWalker x).arbiter = s.arbiter := rfl
@[simp] theorem State.withWalker_walker (s : State) (x : Walker) : (s.withWalker x).walker = x := rfl
@[simp] theorem State.withWalker_monitor (s : State) (x : Walker) : (s.withWalker x).monitor = s.monitor := rfl
@[simp] theorem State.withWalker_engine (s : State) (x : Walker) : (s.withWalker x).engine = s.engine := rfl
@[simp] theorem State.withWalker_access (s : State) (x : Walker) : (s.withWalker x).access = s.access := rfl
@[simp] theorem State.withWalker_store (s : State) (x : Walker) : (s.withWalker x).store = s.store := rfl
@[simp] theorem State.withWalker_events (s : State) (x : Walker) : (s.withWalker x).events = s.events := rfl
@[simp] theorem State.withWalker_pins (s : State) (x : Walker) : (s.withWalker x).pins = s.pins := rfl
@[simp] theorem State.withWalker_out (s : State) (x : Walker) : (s.withWalker x).out = s.out := rfl
@[simp] theorem State.withWalker_pending (s : State) (x : Walker) : (s.withWalker x).pending = s.pending := rfl

@[simp] theorem State.withMonitor_table (s : State) (x : Monitor) : (s.withMonitor x).table = s.table := rfl
@[simp] theorem State.withMonitor_arbiter (s : State) (x : Monitor) : (s.withMonitor x).arbiter = s.arbiter := rfl
@[simp] theorem State.withMonitor_walker (s : State) (x : Monitor) : (s.withMonitor x).walker = s.walker := rfl
@[simp] theorem State.withMonitor_monitor (s : State) (x : Monitor) : (s.withMonitor x).monitor = x := rfl
@[simp] theorem State.withMonitor_engine (s : State) (x : Monitor) : (s.withMonitor x).engine = s.engine := rfl
@[simp] theorem State.withMonitor_access (s : State) (x : Monitor) : (s.withMonitor x).access = s.access := rfl
@[simp] theorem State.withMonitor_store (s : State) (x : Monitor) : (s.withMonitor x).store = s.store := rfl
@[simp] theorem State.withMonitor_events (s : State) (x : Monitor) : (s.withMonitor x).events = s.events := rfl
@[simp] theorem State.withMonitor_pins (s : State) (x : Monitor) : (s.withMonitor x).pins = s.pins := rfl
@[simp] theorem State.withMonitor_out (s : State) (x : Monitor) : (s.withMonitor x).out = s.out := rfl
@[simp] theorem State.withMonitor_pending (s : State) (x : Monitor) : (s.withMonitor x).pending = s.pending := rfl

@[simp] theorem State.withEngine_table (s : State) (x : Engine) : (s.withEngine x).table = s.table := rfl
@[simp] theorem State.withEngine_arbiter (s : State) (x : Engine) : (s.withEngine x).arbiter = s.arbiter := rfl
@[simp] theorem State.withEngine_walker (s : State) (x : Engine) : (s.withEngine x).walker = s.walker := rfl
@[simp] theorem State.withEngine_monitor (s : State) (x : Engine) : (s.withEngine x).monitor = s.monitor := rfl
@[simp] theorem State.withEngine_engine (s : State) (x : Engine) : (s.withEngine x).engine = x := rfl
@[simp] theorem State.withEngine_access (s : State) (x : Engine) : (s.withEngine x).access = s.access := rfl
@[simp] theorem State.withEngine_store (s : State) (x : Engine) : (s.withEngine x).store = s.store := rfl
@[simp] theorem State.withEngine_events (s : State) (x : Engine) : (s.withEngine x).events = s.events := rfl
@[simp] theorem State.withEngine_pins (s : State) (x : Engine) : (s.withEngine x).pins = s.pins := rfl
@[simp] theorem State.withEngine_out (s : State) (x : Engine) : (s.withEngine x).out = s.out := rfl
@[simp] theorem State.withEngine_pending (s : State) (x : Engine) : (s.withEngine x).pending = s.pending := rfl

@[simp] theorem State.withAccess_table (s : State) (x : Access) : (s.withAccess x).table = s.table := rfl
@[simp] theorem State.withAccess_arbiter (s : State) (x : Access) : (s.withAccess x).arbiter = s.arbiter := rfl
@[simp] theorem State.withAccess_walker (s : State) (x : Access) : (s.withAccess x).walker = s.walker := rfl
@[simp] theorem State.withAccess_monitor (s : State) (x : Access) : (s.withAccess x).monitor = s.monitor := rfl
@[simp] theorem State.withAccess_engine (s : State) (x : Access) : (s.withAccess x).engine = s.engine := rfl
@[simp] theorem State.withAccess_access (s : State) (x : Access) : (s.withAccess x).access = x := rfl
@[simp] theorem State.withAccess_store (s : State) (x : Access) : (s.withAccess x).store = s.store := rfl
@[simp] theorem State.withAccess_events (s : State) (x : Access) : (s.withAccess x).events = s.events := rfl
@[simp] theorem State.withAccess_pins (s : State) (x : Access) : (s.withAccess x).pins = s.pins := rfl
@[simp] theorem State.withAccess_out (s : State) (x : Access) : (s.withAccess x).out = s.out := rfl
@[simp] theorem State.withAccess_pending (s : State) (x : Access) : (s.withAccess x).pending = s.pending := rfl

@[simp] theorem State.withStore_table (s : State) (x : Store) : (s.withStore x).table = s.table := rfl
@[simp] theorem State.withStore_arbiter (s : State) (x : Store) : (s.withStore x).arbiter = s.arbiter := rfl
@[simp] theorem State.withStore_walker (s : State) (x : Store) : (s.withStore x).walker = s.walker := rfl
@[simp] theorem State.withStore_monitor (s : State) (x : Store) : (s.withStore x).monitor = s.monitor := rfl
@[simp] theorem State.withStore_engine (s : State) (x : Store) : (s.withStore x).engine = s.engine := rfl
@[simp] theorem State.withStore_access (s : State) (x : Store) : (s.withStore x).access = s.access := rfl
@[simp] theorem State.withStore_store (s : State) (x : Store) : (s.withStore x).store = x := rfl
@[simp] theorem State.withStore_events (s : State) (x : Store) : (s.withStore x).events = s.events := rfl
@[simp] theorem State.withStore_pins (s : State) (x : Store) : (s.withStore x).pins = s.pins := rfl
@[simp] theorem State.withStore_out (s : State) (x : Store) : (s.withStore x).out = s.out := rfl
@[simp] theorem State.withStore_pending (s : State) (x : Store) : (s.withStore x).pending = s.pending := rfl

@[simp] theorem State.withEvents_table (s : State) (x : Events) : (s.withEvents x).table = s.table := rfl
@[simp] theorem State.withEvents_arbiter (s : State) (x : Events) : (s.withEvents x).arbiter = s.arbiter := rfl
@[simp] theorem State.withEvents_walker (s : State) (x : Events) : (s.withEvents x).walker = s.walker := rfl
@[simp] theorem State.withEvents_monitor (s : State) (x : Events) : (s.withEvents x).monitor = s.monitor := rfl
@[simp] theorem State.withEvents_engine (s : State) (x : Events) : (s.withEvents x).engine = s.engine := rfl
@[simp] theorem State.withEvents_access (s : State) (x : Events) : (s.withEvents x).access = s.access := rfl
@[simp] theorem State.withEvents_store (s : State) (x : Events) : (s.withEvents x).store = s.store := rfl
@[simp] theorem State.withEvents_events (s : State) (x : Events) : (s.withEvents x).events = x := rfl
@[simp] theorem State.withEvents_pins (s : State) (x : Events) : (s.withEvents x).pins = s.pins := rfl
@[simp] theorem State.withEvents_out (s : State) (x : Events) : (s.withEvents x).out = s.out := rfl
@[simp] theorem State.withEvents_pending (s : State) (x : Events) : (s.withEvents x).pending = s.pending := rfl

@[simp] theorem State.withPins_table (s : State) (x : Pins) : (s.withPins x).table = s.table := rfl
@[simp] theorem State.withPins_arbiter (s : State) (x : Pins) : (s.withPins x).arbiter = s.arbiter := rfl
@[simp] theorem State.withPins_walker (s : State) (x : Pins) : (s.withPins x).walker = s.walker := rfl
@[simp] theorem State.withPins_monitor (s : State) (x : Pins) : (s.withPins x).monitor = s.monitor := rfl
@[simp] theorem State.withPins_engine (s : State) (x : Pins) : (s.withPins x).engine = s.engine := rfl
@[simp] theorem State.withPins_access (s : State) (x : Pins) : (s.withPins x).access = s.access := rfl
@[simp] theorem State.withPins_store (s : State) (x : Pins) : (s.withPins x).store = s.store := rfl
@[simp] theorem State.withPins_events (s : State) (x : Pins) : (s.withPins x).events = s.events := rfl
@[simp] theorem State.withPins_pins (s : State) (x : Pins) : (s.withPins x).pins = x := rfl
@[simp] theorem State.withPins_out (s : State) (x : Pins) : (s.withPins x).out = s.out := rfl
@[simp] theorem State.withPins_pending (s : State) (x : Pins) : (s.withPins x).pending = s.pending := rfl

@[simp] theorem State.withOut_table (s : State) (x : Outputs) : (s.withOut x).table = s.table := rfl
@[simp] theorem State.withOut_arbiter (s : State) (x : Outputs) : (s.withOut x).arbiter = s.arbiter := rfl
@[simp] theorem State.withOut_walker (s : State) (x : Outputs) : (s.withOut x).walker = s.walker := rfl
@[simp] theorem State.withOut_monitor (s : State) (x : Outputs) : (s.withOut x).monitor = s.monitor := rfl
@[simp] theorem State.withOut_engine (s : State) (x : Outputs) : (s.withOut x).engine = s.engine := rfl
@[simp] theorem State.withOut_access (s : State) (x : Outputs) : (s.withOut x).access = s.access := rfl
@[simp] theorem State.withOut_store (s : State) (x : Outputs) : (s.withOut x).store = s.store := rfl
@[simp] theorem State.withOut_events (s : State) (x : Outputs) : (s.withOut x).events = s.events := rfl
@[simp] theorem State.withOut_pins (s : State) (x : Outputs) : (s.withOut x).pins = s.pins := rfl
@[simp] theorem State.withOut_out (s : State) (x : Outputs) : (s.withOut x).out = x := rfl
@[simp] theorem State.withOut_pending (s : State) (x : Outputs) : (s.withOut x).pending = s.pending := rfl

@[simp] theorem State.withPending_table (s : State) (x : List Instr) : (s.withPending x).table = s.table := rfl
@[simp] theorem State.withPending_arbiter (s : State) (x : List Instr) : (s.withPending x).arbiter = s.arbiter := rfl
@[simp] theorem State.withPending_walker (s : State) (x : List Instr) : (s.withPending x).walker = s.walker := rfl
@[simp] theorem State.withPending_monitor (s : State) (x : List Instr) : (s.withPending x).monitor = s.monitor := rfl
@[simp] theorem State.withPending_engine (s : State) (x : List Instr) : (s.withPending x).engine = s.engine := rfl
@[simp] theorem State.withPending_access (s : State) (x : List Instr) : (s.withPending x).access = s.access := rfl
@[simp] theorem State.withPending_store (s : State) (x : List Instr) : (s.withPending x).store = s.store := rfl
@[simp] theorem State.withPending_events (s : State) (x : List Instr) : (s.withPending x).events = s.events := rfl
@[simp] theorem State.withPending_pins (s : State) (x : List Instr) : (s.withPending x).pins = s.pins := rfl
@[simp] theorem State.withPending_out (s : State) (x : List Instr) : (s.withPending x).out = s.out := rfl
@[simp] theorem State.withPending_pending (s : State) (x : List Instr) : (s.withPending x).pending = x := rfl

end Sys2Proof.Machine
end

