-- ==== Sys2Proof/Laws/Arbiter.lean ====
section
/-! SUPPORT. What the shared operations of Machine/Ops.lean do: asking the arbiter, completing an operation, outputs, answers and violations, each said once. -/
namespace Sys2Proof.Machine

/-! ## A command starts with nothing put out -/

@[simp] theorem State.quiet_table (s : State) : s.quiet.table = s.table := rfl
@[simp] theorem State.quiet_arbiter (s : State) : s.quiet.arbiter = s.arbiter := rfl
@[simp] theorem State.quiet_walker (s : State) : s.quiet.walker = s.walker := rfl
@[simp] theorem State.quiet_monitor (s : State) : s.quiet.monitor = s.monitor := rfl
@[simp] theorem State.quiet_engine (s : State) : s.quiet.engine = s.engine := rfl
@[simp] theorem State.quiet_access (s : State) : s.quiet.access = s.access := rfl
@[simp] theorem State.quiet_store (s : State) : s.quiet.store = s.store := rfl
@[simp] theorem State.quiet_events (s : State) : s.quiet.events = s.events := rfl
@[simp] theorem State.quiet_pins (s : State) : s.quiet.pins = s.pins := rfl
@[simp] theorem State.quiet_pending (s : State) : s.quiet.pending = s.pending := rfl
@[simp] theorem State.quiet_out (s : State) : s.quiet.out = ⟨[], [], []⟩ := rfl

/-! ## The walker's settings -/

/-- Writing the settings touches the walker's two settings and nothing else. -/
@[simp] theorem State.setDrive_eq (s : State) (d : Nat) (i : ProbeInterval) :
    s.setDrive d i = s.withWalker { s.walker with driveMax := d, probeInterval := i } := rfl

/-! ## Requests -/

@[simp] theorem Arbiter.granted_walker (a : Arbiter) (l : AccessLevel) :
    (a.granted l).walker = a.walker := by
  unfold Arbiter.granted; repeat' split
  all_goals rfl

@[simp] theorem Arbiter.granted_store (a : Arbiter) (l : AccessLevel) :
    (a.granted l).store = a.store := by
  unfold Arbiter.granted; repeat' split
  all_goals rfl

@[simp] theorem Arbiter.granted_monitor (a : Arbiter) (l : AccessLevel) :
    (a.granted l).monitor = a.monitor := by
  unfold Arbiter.granted; repeat' split
  all_goals rfl

@[simp] theorem Arbiter.granted_engine (a : Arbiter) (l : AccessLevel) :
    (a.granted l).engine = a.engine := by
  unfold Arbiter.granted; repeat' split
  all_goals rfl

/-- A grant changes nothing while an operation is in progress. -/
theorem Arbiter.granted_of_busy (a : Arbiter) (l : AccessLevel) (c : Client)
    (h : a.inProgress = some c) : a.granted l = a := by
  unfold Arbiter.granted; rw [h]

/-- After a grant a free store means that nobody asks. -/
theorem Arbiter.granted_inProgress (a : Arbiter) (l : AccessLevel) :
    (a.granted l).inProgress = a.inProgress.or a.nextClient := by
  unfold Arbiter.granted
  cases h : a.inProgress <;> simp
  · cases h' : a.nextClient <;> simp [h]
  · simp [h]

theorem State.askWalker_eq (s : State) (r : WalkerReq) :
    s.askWalker r = s.withArbiter ({ s.arbiter with walker := some r }.granted s.access.level) := rfl

theorem State.askStore_eq (s : State) (r : StoreReq) :
    s.askStore r = s.withArbiter ({ s.arbiter with store := some r }.granted s.access.level) := rfl

theorem State.askMonitor_eq (s : State) (r : MonitorReq) :
    s.askMonitor r = s.withArbiter ({ s.arbiter with monitor := some r }.granted s.access.level) :=
  rfl

theorem State.askEngine_eq (s : State) (r : EngineReq) :
    s.askEngine r = s.withArbiter ({ s.arbiter with engine := some r }.granted s.access.level) := rfl

/-! ## What an operation leaves -/

@[simp] theorem State.complete_table (s : State) (c : Client) (t : Table) :
    (s.complete c t).table = t := rfl
@[simp] theorem State.complete_walker (s : State) (c : Client) (t : Table) :
    (s.complete c t).walker = s.walker := rfl
@[simp] theorem State.complete_monitor (s : State) (c : Client) (t : Table) :
    (s.complete c t).monitor = s.monitor := rfl
@[simp] theorem State.complete_engine (s : State) (c : Client) (t : Table) :
    (s.complete c t).engine = s.engine := rfl
@[simp] theorem State.complete_access (s : State) (c : Client) (t : Table) :
    (s.complete c t).access = s.access := rfl
@[simp] theorem State.complete_store (s : State) (c : Client) (t : Table) :
    (s.complete c t).store = s.store := rfl
@[simp] theorem State.complete_events (s : State) (c : Client) (t : Table) :
    (s.complete c t).events = s.events := rfl
@[simp] theorem State.complete_pins (s : State) (c : Client) (t : Table) :
    (s.complete c t).pins = s.pins := rfl
@[simp] theorem State.complete_out (s : State) (c : Client) (t : Table) :
    (s.complete c t).out = s.out := rfl
@[simp] theorem State.complete_pending (s : State) (c : Client) (t : Table) :
    (s.complete c t).pending = s.pending := rfl
@[simp] theorem State.complete_arbiter (s : State) (c : Client) (t : Table) :
    (s.complete c t).arbiter = (s.arbiter.released c).granted s.access.level := rfl

/-! ## The fields a shared operation keeps -/

/-- The blocks that no operation of the monitor's sequence writes. -/
structure KeepsData (s t : State) : Prop where
  table : t.table = s.table
  access : t.access = s.access
  pins : t.pins = s.pins
  pending : t.pending = s.pending

theorem KeepsData.refl (s : State) : KeepsData s s := ⟨rfl, rfl, rfl, rfl⟩

theorem KeepsData.trans {s t u : State} (h : KeepsData s t) (h' : KeepsData t u) : KeepsData s u :=
  ⟨h'.table.trans h.table, h'.access.trans h.access, h'.pins.trans h.pins,
    h'.pending.trans h.pending⟩

theorem State.askMonitor_keeps (s : State) (r : MonitorReq) : KeepsData s (s.askMonitor r) :=
  ⟨rfl, rfl, rfl, rfl⟩

theorem State.askWalker_keeps (s : State) (r : WalkerReq) : KeepsData s (s.askWalker r) :=
  ⟨rfl, rfl, rfl, rfl⟩

theorem State.askStore_keeps (s : State) (r : StoreReq) : KeepsData s (s.askStore r) :=
  ⟨rfl, rfl, rfl, rfl⟩

theorem State.askEngine_keeps (s : State) (r : EngineReq) : KeepsData s (s.askEngine r) :=
  ⟨rfl, rfl, rfl, rfl⟩

theorem State.raise_keeps (s : State) (e : Event) : KeepsData s (s.raise e) :=
  ⟨rfl, rfl, rfl, rfl⟩

theorem State.drive_keeps (s : State) (items : List DriveItem) : KeepsData s (s.drive items) :=
  ⟨rfl, rfl, rfl, rfl⟩

theorem State.bus_keeps (s : State) (items : List PortItem) : KeepsData s (s.bus items) :=
  ⟨rfl, rfl, rfl, rfl⟩

theorem State.flashSend_keeps (s : State) (c : FlashCommand) : KeepsData s (s.flashSend c) :=
  ⟨rfl, rfl, rfl, rfl⟩

theorem State.withMonitor_keeps (s : State) (m : Monitor) : KeepsData s (s.withMonitor m) :=
  ⟨rfl, rfl, rfl, rfl⟩

theorem State.withWalker_keeps (s : State) (w : Walker) : KeepsData s (s.withWalker w) :=
  ⟨rfl, rfl, rfl, rfl⟩

theorem State.withStore_keeps (s : State) (x : Store) : KeepsData s (s.withStore x) :=
  ⟨rfl, rfl, rfl, rfl⟩

theorem State.withEngine_keeps (s : State) (x : Engine) : KeepsData s (s.withEngine x) :=
  ⟨rfl, rfl, rfl, rfl⟩

theorem State.withEvents_keeps (s : State) (x : Events) : KeepsData s (s.withEvents x) :=
  ⟨rfl, rfl, rfl, rfl⟩

theorem State.respond_keeps (s : State) (via : Via) (c : ResultCode) (d : List Byte) :
    KeepsData s (s.respond via c d) := ⟨rfl, rfl, rfl, rfl⟩

theorem State.respondHand_keeps (s : State) (c : ResultCode) (d : List Byte) :
    KeepsData s (s.respondHand c d) := by
  unfold State.respondHand; split
  · exact .refl s
  · exact s.respond_keeps _ _ _

/-! ## Violations -/

/-- R153: what a reported violation leaves. -/
theorem State.reportViolation_access (s : State) (v : Violation) :
    (s.reportViolation v).access =
      match s.access.violation with
      | none => { s.access with violation := some v }
      | some _ => { s.access with furtherCount := min (s.access.furtherCount + 1) 255 } := by
  unfold State.reportViolation; split <;> simp_all [State.raise, State.withAccess, State.withEvents]

theorem State.reportViolation_table (s : State) (v : Violation) :
    (s.reportViolation v).table = s.table := by
  unfold State.reportViolation; split <;> rfl

theorem State.reportViolation_engine (s : State) (v : Violation) :
    (s.reportViolation v).engine = s.engine := by
  unfold State.reportViolation; split <;> rfl

theorem State.reportViolation_pending (s : State) (v : Violation) :
    (s.reportViolation v).pending = s.pending := by
  unfold State.reportViolation; split <;> rfl

theorem State.reportViolation_arbiter (s : State) (v : Violation) :
    (s.reportViolation v).arbiter = s.arbiter := by
  unfold State.reportViolation; split <;> rfl

end Sys2Proof.Machine
end

