-- ==== Sys2Proof/Laws/Monitor.lean ====
section
/-! SUPPORT. What the fault monitor's sequence can change: for each shared operation one frame lemma, which later proofs cite instead of unfolding it. -/
namespace Sys2Proof.Machine

/-- What the fault monitor's sequence, with the requests it takes at its step points, leaves. -/
structure InMonitor (s t : State) : Prop where
  keeps : KeepsData s t
  walker : t.walker = s.walker
  askedByWalker : t.arbiter.walker = s.arbiter.walker
  askedByStore : t.arbiter.store = s.arbiter.store
  askedByEngine : t.arbiter.engine = s.arbiter.engine
  drive : t.out.drive = s.out.drive
  port : t.out.port = s.out.port

theorem InMonitor.refl (s : State) : InMonitor s s := ⟨.refl s, rfl, rfl, rfl, rfl, rfl, rfl⟩

theorem InMonitor.trans {s t u : State} (h : InMonitor s t) (h' : InMonitor t u) : InMonitor s u :=
  ⟨h.keeps.trans h'.keeps, h'.walker.trans h.walker, h'.askedByWalker.trans h.askedByWalker,
    h'.askedByStore.trans h.askedByStore, h'.askedByEngine.trans h.askedByEngine,
    h'.drive.trans h.drive, h'.port.trans h.port⟩

theorem inMonitor_withMonitor (s : State) (m : Monitor) : InMonitor s (s.withMonitor m) :=
  ⟨s.withMonitor_keeps m, rfl, rfl, rfl, rfl, rfl, rfl⟩

theorem inMonitor_raise (s : State) (e : Event) : InMonitor s (s.raise e) :=
  ⟨s.raise_keeps e, rfl, rfl, rfl, rfl, rfl, rfl⟩

theorem inMonitor_withEvents (s : State) (e : Events) : InMonitor s (s.withEvents e) :=
  ⟨s.withEvents_keeps e, rfl, rfl, rfl, rfl, rfl, rfl⟩

theorem inMonitor_withStore (s : State) (x : Store) : InMonitor s (s.withStore x) :=
  ⟨s.withStore_keeps x, rfl, rfl, rfl, rfl, rfl, rfl⟩

theorem inMonitor_respond (s : State) (via : Via) (c : ResultCode) (d : List Byte) :
    InMonitor s (s.respond via c d) :=
  ⟨s.respond_keeps via c d, rfl, rfl, rfl, rfl, rfl, rfl⟩

theorem inMonitor_respondHand (s : State) (c : ResultCode) (d : List Byte) :
    InMonitor s (s.respondHand c d) := by
  unfold State.respondHand; split
  · exact .refl s
  · exact inMonitor_respond ..

theorem inMonitor_askMonitor (s : State) (r : MonitorReq) : InMonitor s (s.askMonitor r) := by
  refine ⟨s.askMonitor_keeps r, rfl, ?_, ?_, ?_, rfl, rfl⟩ <;> simp [State.askMonitor_eq]

theorem inMonitor_poll (s : State) (n : Nat) : InMonitor s (s.poll n) :=
  ⟨⟨rfl, rfl, rfl, rfl⟩, rfl, rfl, rfl, rfl, rfl, rfl⟩

theorem inMonitor_setSuspects (s : State) (l : List Suspect) : InMonitor s (s.setSuspects l) :=
  inMonitor_withMonitor ..

theorem inMonitor_afterLoadStart (s : State) : InMonitor s s.afterLoadStart := by
  unfold State.afterLoadStart; split
  · exact inMonitor_poll ..
  all_goals exact .refl s

theorem inMonitor_afterLoadEnd (s : State) : InMonitor s s.afterLoadEnd := by
  unfold State.afterLoadEnd; split
  · split <;> exact (inMonitor_withStore ..).trans (inMonitor_raise ..)
  all_goals exact .refl s

/-! ## Step points -/

theorem inMonitor_takeAsk (s : State) (a : MonitorAsk) : InMonitor s (s.takeAsk a) := by
  cases a with
  | emptyList => exact inMonitor_withMonitor ..
  | loadStart => exact (inMonitor_withMonitor ..).trans (inMonitor_afterLoadStart _)
  | loadEnd d h e => exact (inMonitor_withMonitor ..).trans (inMonitor_afterLoadEnd _)
  | setMonitor v d h e => exact (inMonitor_withMonitor ..).trans (inMonitor_respond ..)
  | suspects => exact inMonitor_respondHand ..
  | clearSuspects => exact (inMonitor_withMonitor ..).trans (inMonitor_respondHand ..)

theorem inMonitor_takeAsks (l : List MonitorAsk) :
    ∀ s : State, InMonitor s (l.foldl State.takeAsk s) := by
  induction l with
  | nil => exact fun s => .refl s
  | cons a l ih => exact fun s => (inMonitor_takeAsk s a).trans (ih _)

theorem inMonitor_stepPoint (s : State) : InMonitor s s.stepPoint :=
  (inMonitor_withMonitor ..).trans (inMonitor_takeAsks _ _)

/-- With nothing waiting a step point changes nothing. -/
theorem State.stepPoint_of_none (s : State) (h : s.monitor.waiting = []) : s.stepPoint = s := by
  unfold State.stepPoint
  rw [h]
  cases s with
  | mk t a w m e ac st ev p o q => cases m; simp_all [State.withMonitor]

theorem inMonitor_askOfMonitor (s : State) (a : MonitorAsk) : InMonitor s (s.askOfMonitor a) := by
  unfold State.askOfMonitor
  dsimp only
  split
  · exact (inMonitor_withMonitor ..).trans (inMonitor_stepPoint _)
  · exact inMonitor_withMonitor ..

/-! ## The course of a report -/

theorem inMonitor_monitorIdle (s : State) : InMonitor s s.monitorIdle :=
  (inMonitor_withMonitor ..).trans (inMonitor_stepPoint _)

theorem inMonitor_abandonReport (s : State) : InMonitor s s.abandonReport :=
  (inMonitor_withMonitor ..).trans (inMonitor_stepPoint _)

theorem inMonitor_finishEntries (f : State → State) (hf : ∀ s, InMonitor s (f s)) (s : State) :
    InMonitor s (s.finishEntries f) := by
  unfold State.finishEntries
  split
  · exact .refl s
  · dsimp only
    have h := fun m => (inMonitor_withMonitor s m).trans (inMonitor_stepPoint _)
    repeat' split
    all_goals
      first
        | exact h _
        | exact (h _).trans (hf _)
        | exact (h _).trans ((inMonitor_withMonitor ..).trans (inMonitor_askMonitor ..))

theorem inMonitor_handleEntries (f : State → State) (hf : ∀ s, InMonitor s (f s))
    (es : List ReportEntry) :
    ∀ (b : Option ReportEntry) (s : State), InMonitor s (s.handleEntries f b es) := by
  induction es with
  | nil => exact fun b s => by simpa [State.handleEntries] using inMonitor_finishEntries f hf s
  | cons e es ih =>
    intro b s
    unfold State.handleEntries
    split
    · exact .refl s
    · exact inMonitor_askMonitor ..
    · dsimp only
      have h := (inMonitor_withMonitor s
        { s.monitor with entryPosition := s.monitor.entryPosition + 1 }).trans
        (inMonitor_stepPoint _)
      split
      · exact h
      · exact h.trans (ih _ _)

theorem inMonitor_continueEntries (f : State → State) (hf : ∀ s, InMonitor s (f s)) (s : State) :
    InMonitor s (s.continueEntries f) := by
  unfold State.continueEntries
  split
  · exact .refl s
  · exact inMonitor_handleEntries f hf _ _ _

theorem inMonitor_checkSuspects (f : State → State) (hf : ∀ s, InMonitor s (f s)) (s : State) :
    InMonitor s (s.checkSuspects f) := by
  unfold State.checkSuspects
  split
  · exact inMonitor_askMonitor ..
  · exact inMonitor_continueEntries f hf s

theorem inMonitor_takeReport (f : State → State) (hf : ∀ s, InMonitor s (f s)) (r : Report)
    (s : State) : InMonitor s (s.takeReport f r) := by
  unfold State.takeReport
  dsimp only
  have h := fun m => (inMonitor_withMonitor s m).trans (inMonitor_stepPoint _)
  split
  · exact h _
  · exact (h _).trans (inMonitor_checkSuspects f hf _)

theorem inMonitor_endReport (s : State) : InMonitor s s.endReport := by
  unfold State.endReport
  split
  · exact inMonitor_monitorIdle s
  · exact (inMonitor_withMonitor ..).trans
      (inMonitor_takeReport State.monitorIdle inMonitor_monitorIdle _ _)

theorem inMonitor_entryHandled (s : State) : InMonitor s s.entryHandled := by
  unfold State.entryHandled
  dsimp only
  have h := fun m => (inMonitor_withMonitor s m).trans (inMonitor_stepPoint _)
  split
  · exact h _
  · exact (h _).trans (inMonitor_continueEntries State.endReport inMonitor_endReport _)

theorem inMonitor_reportArrives (s : State) (r : Report) : InMonitor s (s.reportArrives r) := by
  unfold State.reportArrives
  split
  · exact .refl s
  · split
    · exact .refl s
    · exact inMonitor_takeReport State.endReport inMonitor_endReport _ _
  all_goals
    split
    · exact inMonitor_raise ..
    · exact inMonitor_withMonitor ..

/-! ## Outcomes of the monitor's operations -/

theorem inMonitor_suspectNamed (s : State) (key : Key) (c : Colour) (k : FaultKind) (f : FrameNo) :
    InMonitor s (s.suspectNamed key c k f) := by
  unfold State.suspectNamed
  split
  · split
    · exact (inMonitor_setSuspects ..).trans (inMonitor_askMonitor ..)
    · exact (inMonitor_setSuspects ..).trans (inMonitor_entryHandled _)
  · split
    · exact (inMonitor_raise ..).trans (inMonitor_entryHandled _)
    · exact (inMonitor_setSuspects ..).trans (inMonitor_entryHandled _)

theorem inMonitor_faultUpdated (s : State) (key : Key) (c : Colour) (k : FaultKind) (f : FrameNo)
    (o : UpdateOutcome) : InMonitor s (s.faultUpdated key c k f o) := by
  cases o with
  | loading => exact inMonitor_abandonReport s
  | none => exact inMonitor_suspectNamed ..
  | extended => exact (inMonitor_withEvents ..).trans (inMonitor_entryHandled _)
  | notDetected => exact (inMonitor_withEvents ..).trans (inMonitor_entryHandled _)
  | extensionSkipped => exact inMonitor_entryHandled s
  | updated => exact inMonitor_entryHandled s

theorem inMonitor_promotionAnswered (s : State) (key : Key) (c : Colour) (o : PromotionOutcome) :
    InMonitor s (s.promotionAnswered key c o) := by
  have hf := inMonitor_setSuspects s (dropSuspect key c s.monitor.suspects)
  cases o with
  | loading => exact inMonitor_abandonReport s
  | outside => exact hf.trans (inMonitor_entryHandled _)
  | inserted => exact (hf.trans (inMonitor_withEvents ..)).trans (inMonitor_entryHandled _)
  | merged u =>
    cases u with
    | extended => exact (hf.trans (inMonitor_withEvents ..)).trans (inMonitor_entryHandled _)
    | notDetected => exact (hf.trans (inMonitor_withEvents ..)).trans (inMonitor_entryHandled _)
    | updated | extensionSkipped | none | loading => exact hf.trans (inMonitor_entryHandled _)
  | heldBySave => exact (inMonitor_setSuspects ..).trans (inMonitor_entryHandled _)
  | full =>
    simp only [State.promotionAnswered]
    split
    · exact ((inMonitor_setSuspects ..).trans (inMonitor_raise ..)).trans (inMonitor_entryHandled _)
    · exact (inMonitor_setSuspects ..).trans (inMonitor_entryHandled _)

theorem inMonitor_suspectChecked (s : State) (o : FindOutcome) :
    InMonitor s (s.suspectChecked o) := by
  cases o with
  | loading => exact inMonitor_abandonReport s
  | found r =>
    exact (inMonitor_setSuspects ..).trans
      (inMonitor_checkSuspects State.endReport inMonitor_endReport _)
  | none =>
    exact (inMonitor_withMonitor ..).trans
      (inMonitor_checkSuspects State.endReport inMonitor_endReport _)

theorem inMonitor_nextHealStep (s : State) (k : Key) : InMonitor s (s.nextHealStep k) := by
  unfold State.nextHealStep
  dsimp only
  have h := fun m => (inMonitor_withMonitor s m).trans (inMonitor_stepPoint _)
  split
  · exact h _
  · exact (h _).trans (inMonitor_askMonitor ..)

theorem inMonitor_healStepped (s : State) (o : HealOutcome) : InMonitor s (s.healStepped o) := by
  cases o with
  | loading => exact inMonitor_abandonReport s
  | endOfPass => exact inMonitor_endReport s
  | counted k => exact inMonitor_nextHealStep s k
  | deferred k => exact inMonitor_nextHealStep s k
  | healed k => exact (inMonitor_withEvents ..).trans (inMonitor_nextHealStep _ k)

end Sys2Proof.Machine
end

