-- ==== Sys2Proof/Laws/Walker.lean ====
section
/-! SUPPORT. What the raster walker's operations can change: the table, the access level, the pins and the queue never; and the drive codes' bounds. -/
namespace Sys2Proof.Machine

theorem keeps_startBlank (s : State) : KeepsData s s.startBlank := ⟨rfl, rfl, rfl, rfl⟩

theorem keeps_driveNext (s : State) : KeepsData s s.driveNext := by
  unfold State.driveNext; split
  · exact s.askWalker_keeps _
  · exact .refl s

theorem keeps_levelArrives (s : State) (l : Level) : KeepsData s (s.levelArrives l) := by
  unfold State.levelArrives; repeat' split
  · exact .refl s
  · exact s.withWalker_keeps _
  · exact (s.withWalker_keeps _).trans (keeps_driveNext _)
  · exact .refl s

theorem keeps_levels (l : List Level) :
    ∀ s : State, KeepsData s (l.foldl State.levelArrives s) := by
  induction l with
  | nil => exact fun s => .refl s
  | cons a l ih => exact fun s => (keeps_levelArrives s a).trans (ih _)

theorem keeps_beginFrame (s : State) : KeepsData s s.beginFrame :=
  ((s.withWalker_keeps _).trans (State.drive_keeps _ _)).trans (keeps_levels _ _)

theorem keeps_endShort (s : State) : KeepsData s s.endShort :=
  (s.raise_keeps _).trans (keeps_beginFrame _)

theorem keeps_loseVideo (s : State) : KeepsData s s.loseVideo :=
  (((s.withWalker_keeps _).trans (keeps_startBlank _)).trans (State.raise_keeps _ _)).trans
    (inMonitor_askOfMonitor _ _).keeps

theorem keeps_endAbandoned (s : State) (e : Ending) : KeepsData s (s.endAbandoned e) := by
  cases e
  · exact keeps_endShort s
  · exact keeps_loseVideo s

theorem keeps_completeFrame (s : State) : KeepsData s s.completeFrame := by
  unfold State.completeFrame
  dsimp only
  split
  · exact ((s.withWalker_keeps _).trans (State.drive_keeps _ _)).trans (keeps_loseVideo _)
  · exact ⟨rfl, rfl, rfl, rfl⟩

theorem keeps_emitterDriven (s : State) : KeepsData s s.emitterDriven := by
  unfold State.emitterDriven; split
  · exact keeps_completeFrame s
  · exact (s.withWalker_keeps _).trans (keeps_driveNext _)

theorem keeps_emitterFound (s : State) (r : Option Record) : KeepsData s (s.emitterFound r) := by
  unfold State.emitterFound; split
  · exact keeps_endAbandoned s _
  · dsimp only
    split
    · exact ((s.withWalker_keeps _).trans (State.drive_keeps _ _)).trans (keeps_emitterDriven _)
    · exact ((s.withWalker_keeps _).trans (State.drive_keeps _ _)).trans (State.askWalker_keeps _ _)

theorem keeps_emitterStamped (s : State) : KeepsData s s.emitterStamped := by
  unfold State.emitterStamped; split
  · exact keeps_endAbandoned s _
  · exact keeps_emitterDriven s

theorem keeps_abandonFrame (s : State) (e : Ending) : KeepsData s (s.abandonFrame e) := by
  unfold State.abandonFrame; split
  · exact keeps_endAbandoned s e
  · exact s.withWalker_keeps _

theorem keeps_frameStartArrives (s : State) : KeepsData s s.frameStartArrives := by
  unfold State.frameStartArrives; repeat' split
  all_goals
    first
      | exact s.withWalker_keeps _
      | exact keeps_beginFrame s
      | exact keeps_abandonFrame s _

theorem keeps_takeHeldFrameStart (s : State) : KeepsData s s.takeHeldFrameStart := by
  unfold State.takeHeldFrameStart; split
  · exact keeps_beginFrame s
  · exact .refl s

theorem keeps_timerExpires (s : State) : KeepsData s s.timerExpires := by
  unfold State.timerExpires; repeat' split
  all_goals
    first
      | exact .refl s
      | exact keeps_loseVideo s
      | exact s.withWalker_keeps _
      | exact keeps_abandonFrame s _

theorem keeps_blankSent (s : State) : KeepsData s s.blankSent := by
  unfold State.blankSent; split
  · exact .refl s
  · exact ⟨rfl, rfl, rfl, rfl⟩

/-! ## The running applied count -/

/-- R42: the running applied count never passes 512. -/
theorem Walker.runningAfter_le (w : Walker) (found : Option Record) : w.runningAfter found ≤ 512 :=
  Nat.min_le_right _ _

/-- R50: below 512 an ACTIVE record found counts one, and nothing else counts. -/
theorem Walker.runningAfter_of_lt (w : Walker) (found : Option Record) (h : w.running < 512) :
    w.runningAfter found = w.running + if countsAsApplied found then 1 else 0 := by
  unfold Walker.runningAfter Config.greatestAppliedCount; split <;> omega

/-! ## Drive codes -/

/-- R14: the base code of a level is at most DRIVE_MAX. -/
theorem baseCode_le (level driveMax : Nat) (h : level ≤ 4095) : baseCode level driveMax ≤ driveMax := by
  unfold baseCode
  calc level * driveMax / 4095 ≤ 4095 * driveMax / 4095 :=
        Nat.div_le_div_right (Nat.mul_le_mul_right _ h)
    _ = driveMax := Nat.mul_div_cancel_left _ (by decide)

end Sys2Proof.Machine
end

