-- ==== Sys2Proof/Laws/Service.lean ====
section
/-! SUPPORT. What the port, the command engine and the image store's sequencing can change: the table only in RESTART, the pins and the queue never. -/
namespace Sys2Proof.Machine

/-- The table, the pins and the queue are as they were. -/
structure KeepsTable (s t : State) : Prop where
  table : t.table = s.table
  pins : t.pins = s.pins
  pending : t.pending = s.pending

theorem KeepsTable.refl (s : State) : KeepsTable s s := ⟨rfl, rfl, rfl⟩

theorem KeepsTable.trans {s t u : State} (h : KeepsTable s t) (h' : KeepsTable t u) :
    KeepsTable s u :=
  ⟨h'.table.trans h.table, h'.pins.trans h.pins, h'.pending.trans h.pending⟩

theorem KeepsData.keepsTable {s t : State} (h : KeepsData s t) : KeepsTable s t :=
  ⟨h.table, h.pins, h.pending⟩

theorem keepsTable_quiet (s : State) : KeepsTable s s.quiet := ⟨rfl, rfl, rfl⟩

theorem keepsTable_withAccess (s : State) (x : Access) : KeepsTable s (s.withAccess x) :=
  ⟨rfl, rfl, rfl⟩

theorem keepsTable_reportViolation (s : State) (v : Violation) :
    KeepsTable s (s.reportViolation v) := by
  unfold State.reportViolation; split <;> exact ⟨rfl, rfl, rfl⟩

/-! ## The port -/

theorem keeps_setWrite (s : State) (w : PortWrite) : KeepsData s (s.setWrite w) :=
  s.withEngine_keeps _

theorem keeps_acceptRequest (s : State) : KeepsData s s.acceptRequest := by
  unfold State.acceptRequest; split
  · exact (s.withEngine_keeps _).trans (State.raise_keeps _ _)
  · exact .refl s

theorem keeps_unitFirstByte (s : State) (b : Byte) : KeepsData s (s.unitFirstByte b) := by
  unfold State.unitFirstByte; repeat' split
  · exact (keeps_setWrite s _).trans (State.bus_keeps _ _)
  · exact ((keeps_acceptRequest s).trans (keeps_setWrite _ _)).trans (State.bus_keeps _ _)
  · exact (keeps_setWrite s _).trans (State.bus_keeps _ _)

theorem keeps_groupFirstByte (s : State) : KeepsData s s.groupFirstByte := by
  unfold State.groupFirstByte; split <;> exact (keeps_setWrite s _).trans (State.bus_keeps _ _)

theorem keeps_acceptWrite (s : State) (via : Via) : KeepsData s (s.acceptWrite via) := by
  unfold State.acceptWrite; repeat' split
  · exact keeps_setWrite s _
  · exact keeps_setWrite s _
  · exact (keeps_acceptRequest s).trans (keeps_setWrite _ _)

theorem keeps_discardWrite (s : State) (via : Via) : KeepsData s (s.discardWrite via) :=
  (keeps_setWrite s _).trans (State.bus_keeps _ _)

theorem keeps_readAnswer (s : State) (n : Nat) : KeepsData s (s.readAnswer n) := by
  unfold State.readAnswer; split
  · split
    · exact s.bus_keeps _
    · exact (s.withEngine_keeps _).trans (State.bus_keeps _ _)
  · exact s.bus_keeps _

theorem keeps_takeAbort (s : State) : KeepsData s s.takeAbort := by
  unfold State.takeAbort; repeat' split
  · exact .refl s
  · exact .refl s
  · exact s.withEngine_keeps _

theorem keeps_abortEnds (s : State) : KeepsData s s.abortEnds :=
  ((keeps_takeAbort s).trans (keeps_setWrite _ _)).trans (State.bus_keeps _ _)

/-! ## Commands as they are taken -/

theorem keepsTable_startReadEvents (s : State) : KeepsTable s s.startReadEvents := ⟨rfl, rfl, rfl⟩

theorem keepsTable_startSetEventMask (m : Word16) (s : State) :
    KeepsTable s (s.startSetEventMask m) := by
  unfold State.startSetEventMask; split <;> exact ⟨rfl, rfl, rfl⟩

theorem keepsTable_startOpenService (s : State) : KeepsTable s s.startOpenService := by
  unfold State.startOpenService; split
  · exact ⟨rfl, rfl, rfl⟩
  · exact (keepsTable_reportViolation s _).trans (State.respond_keeps _ _ _ _).keepsTable

theorem keepsTable_startSetDrive (via : Via) (d : Word16) (i : Byte) (s : State) :
    KeepsTable s (s.startSetDrive via d i) := by
  unfold State.startSetDrive; repeat' split
  all_goals exact ⟨rfl, rfl, rfl⟩

theorem keepsTable_startSave (via : Via) (s : State) : KeepsTable s (s.startSave via) := by
  unfold State.startSave; split <;> exact ⟨rfl, rfl, rfl⟩

theorem keepsTable_startSetMonitor (via : Via) (d h e : Byte) (s : State) :
    KeepsTable s (s.startSetMonitor via d h e) := by
  unfold State.startSetMonitor; split
  · exact (s.withEngine_keeps _).keepsTable.trans (inMonitor_askOfMonitor _ _).keeps.keepsTable
  · exact ⟨rfl, rfl, rfl⟩

theorem keepsTable_startSuspects (s : State) : KeepsTable s s.startSuspects :=
  (s.withEngine_keeps _).keepsTable.trans (inMonitor_askOfMonitor _ _).keeps.keepsTable

theorem keepsTable_startClearSuspects (s : State) : KeepsTable s s.startClearSuspects :=
  (s.withEngine_keeps _).keepsTable.trans (inMonitor_askOfMonitor _ _).keeps.keepsTable

theorem keepsTable_startTableCommand (code : Byte) (r : EngineReq) (s : State) :
    KeepsTable s (s.startTableCommand code r) := ⟨rfl, rfl, rfl⟩

theorem keepsTable_startSetGeometry (r c : Byte) (s : State) :
    KeepsTable s (s.startSetGeometry r c) := by
  unfold State.startSetGeometry; split <;> exact ⟨rfl, rfl, rfl⟩

theorem keepsTable_startLoad (s : State) : KeepsTable s s.startLoad := by
  unfold State.startLoad; split <;> exact ⟨rfl, rfl, rfl⟩

/-- RESTART changes the table only by completing an operation in progress (R40). -/
theorem startRestart_table (via : Via) (s : State) :
    (s.startRestart via).table = if s.store.state = .idle then s.tableAtRestart else s.table := by
  unfold State.startRestart; split <;> rfl

theorem startRestart_pins (via : Via) (s : State) : (s.startRestart via).pins = s.pins := by
  unfold State.startRestart; split <;> rfl

theorem startRestart_pending (via : Via) (s : State) : (s.startRestart via).pending = s.pending := by
  unfold State.startRestart; split <;> rfl

/-! ## Outcomes -/

theorem keepsTable_answerEdit (s : State) (c : ResultCode) (o : EditOutcome) :
    KeepsTable s (s.answerEdit c o) := by
  unfold State.answerEdit; split <;> exact (s.respondHand_keeps _ _).keepsTable

theorem keepsTable_answerGuarded (s : State) (code : Byte) (k : Key) (l : AccessLevel)
    (o : EditOutcome) : KeepsTable s (s.answerGuarded code k l o) := by
  unfold State.answerGuarded; split
  · exact (keepsTable_reportViolation s _).trans (keepsTable_answerEdit _ _ _)
  · exact keepsTable_answerEdit s _ _

theorem keepsTable_geometryAnswered (s : State) (b g : Geometry) (c : Bool) :
    KeepsTable s (s.geometryAnswered b g c) := by
  unfold State.geometryAnswered; repeat' split
  · exact (s.respondHand_keeps _ _).keepsTable
  · exact ((s.respondHand_keeps _ _).trans (inMonitor_askOfMonitor _ _).keeps).keepsTable
  · exact (s.respondHand_keeps _ _).keepsTable

theorem keepsTable_protectionAnswered (s : State) (l : AccessLevel) (p : Bool) :
    KeepsTable s (s.protectionAnswered l p) := by
  unfold State.protectionAnswered; split
  · exact ((s.withStore_keeps _).trans (State.respondHand_keeps _ _ _)).keepsTable
  · exact (keepsTable_reportViolation s _).trans (State.respondHand_keeps _ _ _).keepsTable

theorem keeps_endSweep (s : State) (c : SweepContext) (why : StopReason) :
    KeepsData s (s.endSweep c why) := s.respondHand_keeps _ _

theorem keeps_askSweepStep (s : State) (c : SweepContext) : KeepsData s (s.askSweepStep c) := by
  unfold State.askSweepStep; split
  · exact .refl s
  · exact (s.withEngine_keeps _).trans (State.askEngine_keeps _ _)

theorem keeps_sweepStarted (s : State) (p : SweepParams) (g : Geometry) (m : Bool) :
    KeepsData s (s.sweepStarted p g m) := by
  unfold State.sweepStarted; repeat' split
  · exact s.respondHand_keeps _ _
  · exact keeps_endSweep s _ _
  · exact keeps_askSweepStep s _

theorem keeps_sweepStepped (s : State) (c : SweepContext) (m : Bool) (o : SweepOutcome) :
    KeepsData s (s.sweepStepped c m o) := by
  unfold State.sweepStepped; split
  · exact keeps_endSweep s _ _
  · exact keeps_askSweepStep s _

theorem keeps_statusAnswered (s : State) : KeepsData s s.statusAnswered := by
  unfold State.statusAnswered; repeat' split
  · exact .refl s
  · exact keeps_sweepStarted s _ _ _
  · exact .refl s
  · exact s.respondHand_keeps _ _

/-! ## The image store -/

theorem keeps_storeAsks (s : State) (r : StoreReq) : KeepsData s (s.storeAsks r) :=
  (s.withStore_keeps _).trans (State.askStore_keeps _ _)

theorem keeps_askBegin (s : State) (b : BeginReq) : KeepsData s (s.askBegin b) := by
  unfold State.askBegin; split
  · exact (s.withStore_keeps _).trans (State.askStore_keeps _ _)
  · exact .refl s

/-- Asking for the first operation does not look at what was put out. -/
theorem quiet_askBegin (s : State) (b : BeginReq) :
    s.quiet.askBegin b = (s.askBegin b).quiet := by
  unfold State.askBegin
  by_cases h : s.store.due = some b
  · rw [if_pos h, if_pos (show s.quiet.store.due = some b from h)]; rfl
  · rw [if_neg h, if_neg (show ¬ s.quiet.store.due = some b from h)]

/-- Once asked for, the first operation is not due any more. -/
theorem askBegin_askBegin (s : State) (b : BeginReq) : (s.askBegin b).askBegin b = s.askBegin b := by
  by_cases h : s.store.due = some b
  · simp only [State.askBegin, if_pos h]; rfl
  · simp only [State.askBegin, if_neg h]

theorem keeps_poll (s : State) (n : Nat) : KeepsData s (s.poll n) := (inMonitor_poll s n).keeps

theorem keeps_beginRead (s : State) (a n : Nat) : KeepsData s (s.beginRead a n) :=
  (s.withStore_keeps _).trans (State.flashSend_keeps _ _)

theorem keeps_beginArray (s : State) (c : ArrayCommand) : KeepsData s (s.beginArray c) :=
  (s.withStore_keeps _).trans (State.flashSend_keeps _ _)

theorem keeps_saveNext (s : State) (w : SaveWork) : KeepsData s (s.saveNext w) := by
  unfold State.saveNext; repeat' split
  all_goals
    first
      | exact keeps_beginArray s _
      | exact keeps_storeAsks s _
      | exact .refl s

theorem keeps_failLoad (s : State) : KeepsData s s.failLoad := keeps_storeAsks s _

theorem keeps_loadNext (s : State) (w : LoadWork) (h : Header) : KeepsData s (s.loadNext w h) := by
  unfold State.loadNext; repeat' split
  · exact keeps_beginRead s _ _
  · exact (s.withWalker_keeps _).trans (keeps_storeAsks _ _)
  · exact keeps_failLoad s

theorem keeps_headerRead (s : State) (w : LoadWork) (b : List Byte) :
    KeepsData s (s.headerRead w b) := by
  unfold State.headerRead; split
  · exact keeps_failLoad s
  · exact (s.withStore_keeps _).trans (keeps_storeAsks _ _)

theorem keeps_slotRead (s : State) (w : LoadWork) (b : List Byte) :
    KeepsData s (s.slotRead w b) := by
  unfold State.slotRead; repeat' split
  · exact keeps_failLoad s
  · exact (s.withStore_keeps _).trans (keeps_storeAsks _ _)
  · exact keeps_failLoad s

theorem keeps_afterEndSave (s : State) : KeepsData s s.afterEndSave := by
  unfold State.afterEndSave; repeat' split
  · exact (s.withStore_keeps _).trans (State.raise_keeps _ _)
  · exact (s.withStore_keeps _).trans (State.raise_keeps _ _)
  all_goals exact .refl s

end Sys2Proof.Machine
end

