-- ==== Sys2Proof/Laws/Port.lean ====
section
/-! SUPPORT. What the port's shared operations write: an output, an answer, the acceptance of a write, and the taking of a command. -/
namespace Sys2Proof.Machine

/-! ## An output -/

@[simp] theorem State.bus_table (s : State) (x : List PortItem) : (s.bus x).table = s.table := rfl
@[simp] theorem State.bus_arbiter (s : State) (x : List PortItem) :
    (s.bus x).arbiter = s.arbiter := rfl
@[simp] theorem State.bus_walker (s : State) (x : List PortItem) : (s.bus x).walker = s.walker := rfl
@[simp] theorem State.bus_monitor (s : State) (x : List PortItem) :
    (s.bus x).monitor = s.monitor := rfl
@[simp] theorem State.bus_engine (s : State) (x : List PortItem) : (s.bus x).engine = s.engine := rfl
@[simp] theorem State.bus_access (s : State) (x : List PortItem) : (s.bus x).access = s.access := rfl
@[simp] theorem State.bus_store (s : State) (x : List PortItem) : (s.bus x).store = s.store := rfl
@[simp] theorem State.bus_events (s : State) (x : List PortItem) : (s.bus x).events = s.events := rfl
@[simp] theorem State.bus_pins (s : State) (x : List PortItem) : (s.bus x).pins = s.pins := rfl
@[simp] theorem State.bus_pending (s : State) (x : List PortItem) :
    (s.bus x).pending = s.pending := rfl
@[simp] theorem State.bus_out (s : State) (x : List PortItem) :
    (s.bus x).out = { s.out with port := s.out.port ++ x } := rfl

/-! ## An answer -/

@[simp] theorem State.respond_table (s : State) (via : Via) (c : ResultCode) (d : List Byte) :
    (s.respond via c d).table = s.table := rfl
@[simp] theorem State.respond_arbiter (s : State) (via : Via) (c : ResultCode) (d : List Byte) :
    (s.respond via c d).arbiter = s.arbiter := rfl
@[simp] theorem State.respond_walker (s : State) (via : Via) (c : ResultCode) (d : List Byte) :
    (s.respond via c d).walker = s.walker := rfl
@[simp] theorem State.respond_monitor (s : State) (via : Via) (c : ResultCode) (d : List Byte) :
    (s.respond via c d).monitor = s.monitor := rfl
@[simp] theorem State.respond_access (s : State) (via : Via) (c : ResultCode) (d : List Byte) :
    (s.respond via c d).access = s.access := rfl
@[simp] theorem State.respond_store (s : State) (via : Via) (c : ResultCode) (d : List Byte) :
    (s.respond via c d).store = s.store := rfl
@[simp] theorem State.respond_events (s : State) (via : Via) (c : ResultCode) (d : List Byte) :
    (s.respond via c d).events = s.events := rfl
@[simp] theorem State.respond_pins (s : State) (via : Via) (c : ResultCode) (d : List Byte) :
    (s.respond via c d).pins = s.pins := rfl
@[simp] theorem State.respond_pending (s : State) (via : Via) (c : ResultCode) (d : List Byte) :
    (s.respond via c d).pending = s.pending := rfl
@[simp] theorem State.respond_out (s : State) (via : Via) (c : ResultCode) (d : List Byte) :
    (s.respond via c d).out = s.out := rfl
@[simp] theorem State.respond_engine (s : State) (via : Via) (c : ResultCode) (d : List Byte) :
    (s.respond via c d).engine = { s.engine with
      hand := none
      answer := match via with
        | .unit => some ⟨c, d⟩
        | .group => s.engine.answer } := rfl

/-- The answer to a command in hand that came by the unit address. -/
theorem State.respondHand_of_hand (s : State) (job : Job) (c : ResultCode) (d : List Byte)
    (h : s.engine.hand = some job) : s.respondHand c d = s.respond job.via c d := by
  unfold State.respondHand; rw [h]

/-! ## The acceptance of a write (log entry 11) -/

@[simp] theorem acceptWrite_table (s : State) (via : Via) :
    (s.acceptWrite via).table = s.table := (keeps_acceptWrite s via).table
@[simp] theorem acceptWrite_access (s : State) (via : Via) :
    (s.acceptWrite via).access = s.access := (keeps_acceptWrite s via).access
@[simp] theorem acceptWrite_pins (s : State) (via : Via) :
    (s.acceptWrite via).pins = s.pins := (keeps_acceptWrite s via).pins
@[simp] theorem acceptWrite_pending (s : State) (via : Via) :
    (s.acceptWrite via).pending = s.pending := (keeps_acceptWrite s via).pending

@[simp] theorem acceptWrite_arbiter (s : State) (via : Via) :
    (s.acceptWrite via).arbiter = s.arbiter := by
  unfold State.acceptWrite State.acceptRequest; repeat' split
  all_goals rfl

@[simp] theorem acceptWrite_walker (s : State) (via : Via) :
    (s.acceptWrite via).walker = s.walker := by
  unfold State.acceptWrite State.acceptRequest; repeat' split
  all_goals rfl

@[simp] theorem acceptWrite_monitor (s : State) (via : Via) :
    (s.acceptWrite via).monitor = s.monitor := by
  unfold State.acceptWrite State.acceptRequest; repeat' split
  all_goals rfl

@[simp] theorem acceptWrite_store (s : State) (via : Via) :
    (s.acceptWrite via).store = s.store := by
  unfold State.acceptWrite State.acceptRequest; repeat' split
  all_goals rfl

@[simp] theorem acceptWrite_out (s : State) (via : Via) : (s.acceptWrite via).out = s.out := by
  unfold State.acceptWrite State.acceptRequest; repeat' split
  all_goals rfl

@[simp] theorem acceptWrite_hand (s : State) (via : Via) :
    (s.acceptWrite via).engine.hand = s.engine.hand := by
  unfold State.acceptWrite State.acceptRequest; repeat' split
  all_goals rfl

@[simp] theorem acceptWrite_write (s : State) (via : Via) :
    (s.acceptWrite via).engine.write = .none := by
  unfold State.acceptWrite; repeat' split
  all_goals rfl

/-- R180: a group write leaves the answer buffer. -/
@[simp] theorem acceptWrite_groupAnswer (s : State) :
    (s.acceptWrite .group).engine.answer = s.engine.answer := rfl

@[simp] theorem acceptWrite_mask (s : State) (via : Via) :
    (s.acceptWrite via).events.mask = s.events.mask := by
  unfold State.acceptWrite State.acceptRequest; repeat' split
  all_goals rfl

/-- Acceptance does not look at what was put out. -/
theorem acceptWrite_quiet (s : State) (via : Via) :
    s.quiet.acceptWrite via = (s.acceptWrite via).quiet := by
  unfold State.acceptWrite
  cases via
  · by_cases h : s.engine.write = .unitAccepted
    · rw [if_pos h, if_pos (show s.quiet.engine.write = .unitAccepted from h)]; rfl
    · rw [if_neg h, if_neg (show ¬ s.quiet.engine.write = .unitAccepted from h)]
      unfold State.acceptRequest
      by_cases ha : s.engine.answer.isSome
      · rw [if_pos ha, if_pos (show s.quiet.engine.answer.isSome from ha)]; rfl
      · rw [if_neg ha, if_neg (show ¬ s.quiet.engine.answer.isSome from ha)]; rfl
  · rfl

/-! ## The taking of a command -/

@[simp] theorem quiet_endItems (s : State) (via : Via) (n : Nat) :
    s.quiet.endItems via n = s.endItems via n := rfl

/-- A write that is not refused finds the engine IDLE. -/
theorem hand_of_not_refused (s : State) (via : Via) (h : s.refusesWrite via = false) :
    s.engine.hand = none := by
  unfold State.refusesWrite at h
  cases hh : s.engine.hand <;> simp_all

/-- R176: a command that is not refused is carried out after the acceptance of its write. -/
theorem takeCommand_of_taken (s : State) (via : Via) (code : Byte) (body : State → State)
    (h : s.refusesWrite via = false) :
    s.quiet.takeCommand via code body =
      body ((s.acceptWrite via).quiet.bus
        (s.endItems via (2 + (paramLength code).getD 0))) := by
  unfold State.takeCommand
  rw [if_neg (show ¬ (s.quiet.refusesWrite via = true) by
    rw [show s.quiet.refusesWrite via = s.refusesWrite via from rfl, h]; simp), acceptWrite_quiet,
    quiet_endItems]

/-- R177, R180: a command that is refused leaves no trace. -/
theorem takeCommand_of_refused (s : State) (via : Via) (code : Byte) (body : State → State)
    (h : s.refusesWrite via = true) : s.quiet.takeCommand via code body = s.quiet.discardWrite via :=
  if_pos h

end Sys2Proof.Machine
end

