-- ==== Sys2Proof/Laws/Commands.lean ====
section
/-! SUPPORT. What a parsed write is: its shape, and the meaning of the command it carries. -/
namespace Sys2Proof.Machine

/-- R176: a request that parses holds its code, its length and as many parameters. -/
theorem parseRequest_command {via : Via} {bytes : List Byte} {i : Instr}
    (h : parseRequest via bytes = .command i) :
    ∃ code n params, bytes = code :: n :: params ∧ params.length = n.toNat ∧ n.toNat ≤ 24 ∧
      paramLength code = some n.toNat ∧ commandOf via code params = some i := by
  unfold parseRequest at h
  split at h
  · rename_i code n params
    refine ⟨code, n, params, rfl, ?_⟩
    repeat' split at h
    all_goals first
      | (obtain rfl := ParsedWrite.command.inj h; simp_all [Config.requestParams])
      | cases h
  · cases h

theorem code_eq {code : Byte} {n : Nat} (h : code.toNat = n) : code = BitVec.ofNat 8 n := by
  subst h; simp

/-- A command that came by the unit address is what the engine starts when its write is taken. -/
theorem exec_of_unitCommand {code : Byte} {params : List Byte} {i : Instr} (s : State)
    (h : commandOf .unit code params = some i) :
    exec i s = .next (s.quiet.takeCommand .unit code (State.startCommand .unit i)) := by
  unfold commandOf at h
  split at h
  · unfold bareCommand at h
    split at h <;> rename_i hc
    all_goals first
      | (obtain rfl := code_eq hc; obtain rfl := Option.some.inj h; rfl)
      | cases h
  · unfold pairCommand at h
    split at h <;> rename_i hc
    all_goals first
      | (obtain rfl := code_eq hc; obtain rfl := Option.some.inj h; rfl)
      | cases h
  · unfold tripleCommand at h
    split at h <;> rename_i hc
    all_goals first
      | (obtain rfl := code_eq hc; obtain rfl := Option.some.inj h; rfl)
      | cases h
  · unfold longCommand at h
    split at h <;> rename_i hc
    all_goals first
      | (obtain rfl := code_eq hc; obtain ⟨a, ha, rfl⟩ := Option.map_eq_some_iff.mp h; rfl)
      | cases h

/-- R180: so is one of the five commands that came by the group address. -/
theorem exec_of_groupCommand {code : Byte} {params : List Byte} {i : Instr} (s : State)
    (h : commandOf .group code params = some i) (taken : takenByGroup code = true) :
    exec i s = .next (s.quiet.takeCommand .group code (State.startCommand .group i)) := by
  unfold commandOf at h
  split at h
  · unfold bareCommand at h
    split at h <;> rename_i hc
    all_goals first
      | (obtain rfl := code_eq hc; exact absurd taken (by decide))
      | (obtain rfl := code_eq hc; obtain rfl := Option.some.inj h; rfl)
      | cases h
  · unfold pairCommand at h
    split at h <;> rename_i hc
    all_goals first
      | (obtain rfl := code_eq hc; exact absurd taken (by decide))
      | cases h
  · unfold tripleCommand at h
    split at h <;> rename_i hc
    all_goals first
      | (obtain rfl := code_eq hc; obtain rfl := Option.some.inj h; rfl)
      | cases h
  · unfold longCommand at h
    split at h <;> rename_i hc
    all_goals first
      | (obtain rfl := code_eq hc; exact absurd taken (by decide))
      | cases h

end Sys2Proof.Machine
end

