-- ==== Sys2Proof/Laws/Exec.lean ====
section
/-! SUPPORT. Once for all commands: exec goes on, keeps the queue, and changes the table in one of the ways listed. -/
namespace Sys2Proof.Machine

/-- The ways in which a command can leave the table, each with what must hold for it. -/
inductive TableChange (s : State) : Instr → Table → Prop where
  | same (c : Instr) : TableChange s c s.table
  | hardReset (a : Bool) : TableChange s (.hardReset a) (.afterReset a)
  | restarted (c : Instr) (h : s.store.state = .idle) (idle : s.engine.hand = none) :
      TableChange s c s.tableAtRestart
  | insert (i : RecordImage) (h : s.arbiter.engineOp = some (.insert i)) :
      TableChange s .tableInsert (s.table.insert s.arbiter.levelAtGrant i).1
  | promote (k : Key) (c : Colour) (f : FaultKind) (n : FrameNo)
      (h : s.arbiter.monitorOp = some (.promote k c f n)) :
      TableChange s .promotionInsert (s.table.promote k c f n).1
  | amend (sel : Byte) (i : RecordImage) (h : s.arbiter.engineOp = some (.amend sel i)) :
      TableChange s .tableAmend (s.table.amend s.arbiter.levelAtGrant sel i).1
  | remove (row col : Byte) (h : s.arbiter.engineOp = some (.remove row col)) :
      TableChange s .remove (s.table.remove s.arbiter.levelAtGrant row col).1
  | fault (k : Key) (c : Colour) (f : FaultKind) (n : FrameNo)
      (h : s.arbiter.monitorOp = some (.faultUpdate k c f n)) :
      TableChange s .faultUpdate (s.table.faultUpdate k c f n).1
  | stamp (k : Key) (n : FrameNo) (cs : List Colour)
      (h : s.arbiter.walkerOp = some (.stamp k n cs)) :
      TableChange s .stampProbeFrame (s.table.stamp k n cs)
  | sweep (p : Option Key) (f : SweepFilter) (a : SweepAction) (v : Word16)
      (h : s.arbiter.engineOp = some (.sweepStep p f a v)) :
      TableChange s .sweepStep (s.table.sweepStep s.arbiter.levelAtGrant p f a v).1
  | heal (p : Option Key) (f : FrameNo) (n : Nat)
      (h : s.arbiter.monitorOp = some (.heal p f n)) :
      TableChange s .healStep (s.table.healStep p f n).1
  | geometry (g : Geometry) (h : s.arbiter.engineOp = some (.geometryChange g)) :
      TableChange s .geometryChange (s.table.changeGeometry g).1
  | beginSave (h : (s.askBegin .save).arbiter.storeOp = some .beginSave) :
    TableChange s .beginSave (s.table.hold true)
  | endSave (h : s.arbiter.storeOp = some .endSave) : TableChange s .endSave (s.table.hold false)
  | beginLoad (h : (s.askBegin .load).arbiter.storeOp = some .beginLoad) :
    TableChange s .beginLoad s.table.beginLoad
  | loadGeometry (g : Geometry) (h : s.arbiter.storeOp = some (.loadGeometry g)) :
      TableChange s .loadGeometry (s.table.loadGeometry g)
  | loadInsert (p : Persistent) (h : s.arbiter.storeOp = some (.loadInsert p)) :
      TableChange s .loadInsert (s.table.loadInsert p).1
  | endLoadSuccess (g : Word32) (h : s.arbiter.storeOp = some (.endLoadSuccess g)) :
      TableChange s .endLoad (s.table.endLoadSuccess g)
  | endLoadFailure (h : s.arbiter.storeOp = some .endLoadFailure) :
      TableChange s .endLoad s.table.endLoadFailure

/-- What a command leaves: the queue as it was, and the table in one of the ways listed. -/
structure ExecLeaves (s : State) (c : Instr) (t : State) : Prop where
  pending : t.pending = s.pending
  table : TableChange s c t.table

theorem ExecLeaves.of_keeps {s t : State} (c : Instr) (h : KeepsTable s t) : ExecLeaves s c t :=
  ⟨h.pending, h.table ▸ .same c⟩

/-- After a completed operation the client's own steps keep the table. -/
theorem ExecLeaves.of_complete {s t : State} {c : Instr} {cl : Client} {x : Table}
    (hx : TableChange s c x) (h : KeepsTable (s.quiet.complete cl x) t) : ExecLeaves s c t :=
  ⟨h.pending, by rw [h.table]; exact hx⟩

/-- As `of_complete`, for an operation asked for in the same step. -/
theorem ExecLeaves.of_asked {s t : State} {c : Instr} {b : BeginReq} {cl : Client} {x : Table}
    (hx : TableChange s c x) (h : KeepsTable ((s.quiet.askBegin b).complete cl x) t) :
    ExecLeaves s c t :=
  ⟨h.pending.trans (keeps_askBegin s.quiet b).pending, by rw [h.table]; exact hx⟩

theorem quiet_ex (s : State) (c : Instr) : ExecLeaves s c s.quiet := .of_keeps c (keepsTable_quiet s)

theorem takeCommand_ex (s : State) (c : Instr) (via : Via) (code : Byte) (body : State → State)
    (h : ∀ u, KeepsTable u (body u)) : ExecLeaves s c (s.quiet.takeCommand via code body) := by
  unfold State.takeCommand; split
  · exact .of_keeps c ((keepsTable_quiet s).trans (keeps_discardWrite _ _).keepsTable)
  · exact .of_keeps c ((keepsTable_quiet s).trans
      (((keeps_acceptWrite _ _).trans (State.bus_keeps _ _)).keepsTable.trans (h _)))

theorem restart_ex (s : State) (c : Instr) (via : Via) (items : List PortItem)
    (hi : s.quiet.refusesWrite via = false) :
    ExecLeaves s c (((s.quiet.acceptWrite via).bus items).startRestart via) := by
  have hk := (keeps_acceptWrite s.quiet via)
  have ht : ∀ x, ((s.quiet.acceptWrite via).bus x).tableAtRestart = s.tableAtRestart := by
    intro x
    unfold State.tableAtRestart
    simp only [State.bus, State.withOut, acceptWrite_arbiter, hk.table]
    rfl
  refine ⟨?_, ?_⟩
  · rw [startRestart_pending]; exact hk.pending
  · rw [startRestart_table]
    split
    · rename_i h
      rw [ht]
      refine .restarted c ?_ ?_
      · simpa [State.bus, acceptWrite_store] using h
      · have := hi
        simp only [State.refusesWrite, Bool.or_eq_false_iff, State.quiet, State.withOut] at this
        simpa using this.1
    · have : ((s.quiet.acceptWrite via).bus items).table = s.table := hk.table
      rw [this]; exact .same c

/-- A parsed request, handed to the engine, is a command of the port's table. -/
theorem keepsTable_startCommand (via : Via) (i : Instr) (s : State) (h : ∀ v, i ≠ .restart v) :
    KeepsTable s (s.startCommand via i) := by
  cases i <;> simp only [State.startCommand]
  case restart v => exact absurd rfl (h v)
  case describe => exact ⟨rfl, rfl, rfl⟩
  case readEvents => exact keepsTable_startReadEvents s
  case setEventMask m => exact keepsTable_startSetEventMask m s
  case readViolation => exact ⟨rfl, rfl, rfl⟩
  case openService => exact keepsTable_startOpenService s
  case closeService v => exact ⟨rfl, rfl, rfl⟩
  case setGeometry r c => exact keepsTable_startSetGeometry r c s
  case setDrive v d i => exact keepsTable_startSetDrive via d i s
  case setMonitor v d n e => exact keepsTable_startSetMonitor via d n e s
  case suspects => exact keepsTable_startSuspects s
  case clearSuspects => exact keepsTable_startClearSuspects s
  case save v => exact keepsTable_startSave via s
  case load => exact keepsTable_startLoad s
  all_goals exact ⟨rfl, rfl, rfl⟩

theorem startCommand_ex (s : State) (c : Instr) (via : Via) (items : List PortItem) (i : Instr)
    (hi : s.quiet.refusesWrite via = false) :
    ExecLeaves s c (((s.quiet.acceptWrite via).bus items).startCommand via i) := by
  by_cases h : ∃ v, i = .restart v
  · obtain ⟨v, rfl⟩ := h
    exact restart_ex s c via items hi
  · exact .of_keeps c ((keepsTable_quiet s).trans
      (((keeps_acceptWrite _ _).trans (State.bus_keeps _ _)).keepsTable.trans
        (keepsTable_startCommand via i _ fun v hv => h ⟨v, hv⟩)))

theorem writeEnds_ex (s : State) (c : Instr) (via : Via) (bytes : List Byte) :
    ExecLeaves s c (s.quiet.writeEnds via bytes) := by
  have hw : ∀ x, KeepsTable s ((s.quiet.acceptWrite via).bus x) := fun x =>
    (keepsTable_quiet s).trans ((keeps_acceptWrite _ _).trans (State.bus_keeps _ _)).keepsTable
  unfold State.writeEnds
  split
  · exact .of_keeps c ((keepsTable_quiet s).trans
      ((keeps_setWrite _ _).trans (State.bus_keeps _ _)).keepsTable)
  · rename_i first rest
    split
    · exact .of_keeps c ((keepsTable_quiet s).trans (keeps_abortEnds _).keepsTable)
    · split
      · exact .of_keeps c ((keepsTable_quiet s).trans (keeps_discardWrite _ _).keepsTable)
      · rename_i hr
        have hr' : s.quiet.refusesWrite via = false := by simpa using hr
        cases via
        · simp only [State.unitRequest]
          split
          · exact .of_keeps c ((hw _).trans (State.respond_keeps _ _ _ _).keepsTable)
          · exact .of_keeps c ((hw _).trans (State.respond_keeps _ _ _ _).keepsTable)
          · exact startCommand_ex s c _ _ _ hr'
        · simp only [State.groupRequest]
          split
          · exact .of_keeps c (hw _)
          · exact .of_keeps c (hw _)
          · split
            · exact startCommand_ex s c _ _ _ hr'
            · exact .of_keeps c (hw _)

theorem ex_next {s : State} {c : Instr} {t : State} (h : ExecLeaves s c t) :
    ∃ u, Host.Outcome.next (φ := Fault) (ρ := Refusal) t = .next u ∧ ExecLeaves s c u :=
  ⟨t, rfl, h⟩

theorem command_ex (s : State) (c : Instr) (via : Via) (code : Byte) (body : State → State)
    (h : ∀ u, KeepsTable u (body u)) :
    ∃ u, Host.Outcome.next (φ := Fault) (ρ := Refusal) (s.quiet.takeCommand via code body) = .next u ∧
      ExecLeaves s c u := ex_next (takeCommand_ex s c via code body h)

theorem keeps_ex {s t : State} (c : Instr) (h : KeepsData s.quiet t) :
    ∃ u, Host.Outcome.next (φ := Fault) (ρ := Refusal) t = .next u ∧ ExecLeaves s c u :=
  ex_next (.of_keeps c ((keepsTable_quiet s).trans h.keepsTable))

/-- Every command goes on, and leaves the queue and the table as said. -/
theorem exec_leaves (c : Instr) (s : State) : ∃ t, exec c s = .next t ∧ ExecLeaves s c t := by
  cases c
  case hardReset a => exact ex_next ⟨rfl, .hardReset a⟩
  case svcEnChange a =>
    refine ⟨_, rfl, ?_⟩
    unfold State.svcEnChanges
    dsimp only
    split <;> exact ⟨rfl, .same _⟩
  case frameStart => exact keeps_ex _ (keeps_frameStartArrives _)
  case heldFrameStart => exact keeps_ex _ (keeps_takeHeldFrameStart _)
  case pixelLevel l => exact keeps_ex _ (keeps_levelArrives _ l)
  case videoTimerExpiry => exact keeps_ex _ (keeps_timerExpires _)
  case blankSendOver => exact keeps_ex _ (keeps_blankSent _)
  case faultReport r => exact keeps_ex _ (inMonitor_reportArrives _ r).keeps
  case requestAccept a b =>
    refine ⟨_, rfl, ?_⟩
    split
    · exact .of_keeps _ ((keepsTable_quiet s).trans (State.bus_keeps _ _).keepsTable)
    · exact .of_keeps _ ((keepsTable_quiet s).trans
        ((State.bus_keeps _ _).trans (keeps_unitFirstByte _ b)).keepsTable)
    · exact .of_keeps _ ((keepsTable_quiet s).trans
        ((State.bus_keeps _ _).trans (keeps_groupFirstByte _)).keepsTable)
  case requestWrite a b =>
    refine ⟨_, rfl, ?_⟩
    split
    · exact .of_keeps _ ((keepsTable_quiet s).trans (State.bus_keeps _ _).keepsTable)
    · exact writeEnds_ex s _ _ b
  case answerRead a n =>
    refine ⟨_, rfl, ?_⟩
    split
    · exact .of_keeps _ ((keepsTable_quiet s).trans (keeps_readAnswer _ n).keepsTable)
    all_goals exact .of_keeps _ ((keepsTable_quiet s).trans (State.bus_keeps _ _).keepsTable)
  case abort n =>
    exact keeps_ex _ (keeps_abortEnds _)
  case restart via =>
    refine ⟨_, rfl, ?_⟩
    unfold State.takeCommand
    split
    · exact .of_keeps _ ((keepsTable_quiet s).trans (keeps_discardWrite _ _).keepsTable)
    · rename_i h
      exact restart_ex s _ via _ (by simpa using h)
  case describe => exact command_ex s _ _ _ _ fun u => ⟨rfl, rfl, rfl⟩
  case status => exact command_ex s _ _ _ _ fun u => keepsTable_startTableCommand _ _ u
  case readEvents => exact command_ex s _ _ _ _ keepsTable_startReadEvents
  case setEventMask m => exact command_ex s _ _ _ _ (keepsTable_startSetEventMask m)
  case readViolation => exact command_ex s _ _ _ _ fun u => ⟨rfl, rfl, rfl⟩
  case openService => exact command_ex s _ _ _ _ keepsTable_startOpenService
  case closeService via => exact command_ex s _ _ _ _ fun u => ⟨rfl, rfl, rfl⟩
  case setGeometry r c => exact command_ex s _ _ _ _ (keepsTable_startSetGeometry r c)
  case setDrive via d i => exact command_ex s _ _ _ _ (keepsTable_startSetDrive via d i)
  case setMonitor via d h e => exact command_ex s _ _ _ _ (keepsTable_startSetMonitor via d h e)
  case insert i => exact command_ex s _ _ _ _ fun u => keepsTable_startTableCommand _ _ u
  case amend sel i => exact command_ex s _ _ _ _ fun u => keepsTable_startTableCommand _ _ u
  case retire r c => exact command_ex s _ _ _ _ fun u => keepsTable_startTableCommand _ _ u
  case lookup r c => exact command_ex s _ _ _ _ fun u => keepsTable_startTableCommand _ _ u
  case next r c => exact command_ex s _ _ _ _ fun u => keepsTable_startTableCommand _ _ u
  case sweep p => exact command_ex s _ _ _ _ fun u => ⟨rfl, rfl, rfl⟩
  case suspects => exact command_ex s _ _ _ _ keepsTable_startSuspects
  case clearSuspects => exact command_ex s _ _ _ _ keepsTable_startClearSuspects
  case save via => exact command_ex s _ _ _ _ (keepsTable_startSave via)
  case load => exact command_ex s _ _ _ _ keepsTable_startLoad
  case findByKey =>
    refine ⟨_, rfl, ?_⟩
    split
    · exact .of_complete (.same _) (keeps_emitterFound _ _).keepsTable
    · exact .of_complete (.same _) (keepsTable_answerEdit _ _ _)
    · exact .of_complete (.same _) (inMonitor_suspectChecked _ _).keeps.keepsTable
    · exact quiet_ex s _
  case findFirstAtOrAfter =>
    refine ⟨_, rfl, ?_⟩
    split
    · exact .of_complete (.same _) (keepsTable_answerEdit _ _ _)
    · exact quiet_ex s _
  case tableInsert =>
    refine ⟨_, rfl, ?_⟩
    split
    · rename_i i h
      exact .of_complete (.insert i h) (keepsTable_answerGuarded _ _ _ _ _)
    · exact quiet_ex s _
  case promotionInsert =>
    refine ⟨_, rfl, ?_⟩
    split
    · rename_i k c f n h
      exact .of_complete (.promote k c f n h) (inMonitor_promotionAnswered _ _ _ _).keeps.keepsTable
    · exact quiet_ex s _
  case tableAmend =>
    refine ⟨_, rfl, ?_⟩
    split
    · rename_i sel i h
      exact .of_complete (.amend sel i h) (keepsTable_answerGuarded _ _ _ _ _)
    · exact quiet_ex s _
  case remove =>
    refine ⟨_, rfl, ?_⟩
    split
    · rename_i r c h
      exact .of_complete (.remove r c h) (keepsTable_answerGuarded _ _ _ _ _)
    · exact quiet_ex s _
  case faultUpdate =>
    refine ⟨_, rfl, ?_⟩
    split
    · rename_i k c f n h
      exact .of_complete (.fault k c f n h) (inMonitor_faultUpdated _ _ _ _ _ _).keeps.keepsTable
    · exact quiet_ex s _
  case stampProbeFrame =>
    refine ⟨_, rfl, ?_⟩
    split
    · rename_i k n cs h
      exact .of_complete (.stamp k n cs h) (keeps_emitterStamped _).keepsTable
    · exact quiet_ex s _
  case sweepStep =>
    refine ⟨_, rfl, ?_⟩
    split
    · rename_i p f a v c m h _
      exact .of_complete (.sweep p f a v h) (keeps_sweepStepped _ _ _ _).keepsTable
    · exact quiet_ex s _
  case healStep =>
    refine ⟨_, rfl, ?_⟩
    split
    · rename_i p f n h
      exact .of_complete (.heal p f n h) (inMonitor_healStepped _ _).keeps.keepsTable
    · exact quiet_ex s _
  case statusRead =>
    refine ⟨_, rfl, ?_⟩
    split
    · exact .of_complete (.same _) (keeps_statusAnswered _).keepsTable
    · exact quiet_ex s _
  case geometryChange =>
    refine ⟨_, rfl, ?_⟩
    split
    · rename_i g h
      exact .of_complete (.geometry g h) (keepsTable_geometryAnswered _ _ _ _)
    · exact quiet_ex s _
  case protectionTest =>
    refine ⟨_, rfl, ?_⟩
    split
    · exact .of_complete (.same _) (keepsTable_protectionAnswered _ _ _)
    · exact quiet_ex s _
  case beginSave =>
    refine ⟨_, rfl, ?_⟩
    split
    · rename_i h _
      exact .of_asked (.beginSave (by rw [quiet_askBegin] at h; exact h))
        ((State.withStore_keeps _ _).trans (keeps_poll _ _)).keepsTable
    · exact .of_keeps _ ((keepsTable_quiet s).trans (keeps_askBegin _ _).keepsTable)
  case saveRead =>
    refine ⟨_, rfl, ?_⟩
    split
    · exact .of_complete (.same _) ((State.withStore_keeps _ _).trans (keeps_saveNext _ _)).keepsTable
    · exact quiet_ex s _
  case endSave =>
    refine ⟨_, rfl, ?_⟩
    split
    · rename_i h
      exact .of_complete (.endSave h) (keeps_afterEndSave _).keepsTable
    · exact quiet_ex s _
  case beginLoad =>
    refine ⟨_, rfl, ?_⟩
    split
    · rename_i h
      exact .of_asked (.beginLoad (by rw [quiet_askBegin] at h; exact h))
        (inMonitor_askOfMonitor _ _).keeps.keepsTable
    · exact .of_keeps _ ((keepsTable_quiet s).trans (keeps_askBegin _ _).keepsTable)
  case loadGeometry =>
    refine ⟨_, rfl, ?_⟩
    split
    · rename_i g _ _ _ _ _ _ h _
      exact .of_complete (.loadGeometry g h) (keeps_loadNext _ _ _).keepsTable
    · exact quiet_ex s _
  case loadInsert =>
    refine ⟨_, rfl, ?_⟩
    split
    · rename_i p _ _ _ _ _ _ h _
      dsimp only
      split
      · exact .of_complete (.loadInsert p h)
          ((State.withStore_keeps _ _).trans (keeps_loadNext _ _ _)).keepsTable
      · exact .of_complete (.loadInsert p h) (keeps_failLoad _).keepsTable
    · exact quiet_ex s _
  case endLoad =>
    refine ⟨_, rfl, ?_⟩
    split
    · rename_i g _ _ _ _ _ _ h _
      exact .of_complete (.endLoadSuccess g h)
        (((State.withWalker_keeps _ _).trans
          (State.withStore_keeps _ _)).trans (inMonitor_askOfMonitor _ _).keeps).keepsTable
    · rename_i h _
      exact .of_complete (.endLoadFailure h) (((State.withWalker_keeps _ _).trans
        (State.withStore_keeps _ _)).trans (inMonitor_askOfMonitor _ _).keeps).keepsTable
    · exact quiet_ex s _
  case readStatus b =>
    refine ⟨_, rfl, ?_⟩
    split
    · split
      · exact .of_keeps _ ((keepsTable_quiet s).trans (keeps_poll _ _).keepsTable)
      · split
        · exact .of_keeps _ ((keepsTable_quiet s).trans
            ((State.withStore_keeps _ _).trans (keeps_saveNext _ _)).keepsTable)
        · exact .of_keeps _ ((keepsTable_quiet s).trans (keeps_beginRead _ _ _).keepsTable)
        · exact .of_keeps _ ((keepsTable_quiet s).trans (State.withStore_keeps _ _).keepsTable)
    · exact quiet_ex s _
  case writeEnable =>
    refine ⟨_, rfl, ?_⟩
    split
    · exact .of_keeps _ ((keepsTable_quiet s).trans
        ((State.withStore_keeps _ _).trans (State.flashSend_keeps _ _)).keepsTable)
    · exact quiet_ex s _
  case sectorErase =>
    refine ⟨_, rfl, ?_⟩
    split
    · exact .of_keeps _ ((keepsTable_quiet s).trans
        ((State.withStore_keeps _ _).trans (keeps_poll _ _)).keepsTable)
    · exact quiet_ex s _
  case pageProgram =>
    refine ⟨_, rfl, ?_⟩
    split
    · exact .of_keeps _ ((keepsTable_quiet s).trans
        ((State.withStore_keeps _ _).trans (keeps_poll _ _)).keepsTable)
    · exact quiet_ex s _
  case readData b =>
    refine ⟨_, rfl, ?_⟩
    repeat' split
    · exact .of_keeps _ ((keepsTable_quiet s).trans (keeps_headerRead _ _ _).keepsTable)
    · exact .of_keeps _ ((keepsTable_quiet s).trans (keeps_slotRead _ _ _).keepsTable)
    all_goals exact quiet_ex s _
  case flashTimeout =>
    refine ⟨_, rfl, ?_⟩
    split
    · exact .of_keeps _ ((keepsTable_quiet s).trans
        ((State.withStore_keeps _ _).trans (keeps_storeAsks _ _)).keepsTable)
    · exact .of_keeps _ ((keepsTable_quiet s).trans (keeps_failLoad _).keepsTable)
    · exact quiet_ex s _

/-- A command's next state leaves the queue and the table as said. -/
theorem leaves_of_exec {c : Instr} {s t : State} (h : exec c s = .next t) : ExecLeaves s c t := by
  obtain ⟨u, hu, hl⟩ := exec_leaves c s
  rw [hu] at h
  injection h with h
  exact h ▸ hl

end Sys2Proof.Machine
end

