-- ==== Sys2Proof/WellFormed.lean ====
section
/-! DEFINITION. When a command's operands are what its row says they are. -/
namespace Sys2Proof

/-- R179: a write that begins with the ABORT byte is the row ABORT, except at the group address (R180). -/
def isAbortWrite (address : BitVec 7) (bytes : List Byte) : Bool :=
  address != Config.groupAddress && bytes.head? == some Config.abortByte

/-- R157, R164, R165: a read data transfer brings the 32 header bytes or one 16-byte slot. -/
def isImageTransfer (bytes : List Byte) : Bool :=
  bytes.length == Config.headerBytes || bytes.length == Config.slotBytes

/-- Every operand type but these two admits only what its interface can carry. A write refused while the engine is EXECUTING may hold any request, so REQUEST_WRITE's bytes are otherwise free. -/
def Instr.wellFormed : Instr → Bool
  | .requestWrite address bytes => !isAbortWrite address bytes
  | .readData bytes => isImageTransfer bytes
  | .hardReset _ | .svcEnChange _ | .frameStart | .heldFrameStart | .pixelLevel _ | .videoTimerExpiry
  | .blankSendOver | .faultReport _ | .requestAccept _ _ | .answerRead _ _ | .abort _ | .describe
  | .status | .readEvents | .setEventMask _ | .readViolation | .openService | .closeService _
  | .restart _ | .setGeometry _ _ | .setDrive _ _ _ | .setMonitor _ _ _ _ | .insert _ | .amend _ _
  | .retire _ _ | .lookup _ _ | .next _ _ | .sweep _ | .suspects | .clearSuspects | .save _ | .load
  | .findByKey | .findFirstAtOrAfter | .tableInsert | .promotionInsert | .tableAmend | .remove
  | .faultUpdate | .stampProbeFrame | .sweepStep | .healStep | .statusRead | .geometryChange
  | .protectionTest | .beginSave | .saveRead | .endSave | .beginLoad | .loadGeometry | .loadInsert
  | .endLoad | .readStatus _ | .writeEnable | .sectorErase | .pageProgram | .flashTimeout => true

end Sys2Proof
end

