-- ==== Sys2Proof/Laws/PerInstr.lean ====
section
/-! SUPPORT. Command by command: what the port parses from a write is well formed. -/
namespace Sys2Proof.Laws.WellFormedOperands

/-- R176: a command that the port parses from the bytes of a write has the operands its row asks for. -/
def Statement (i : Instr) : Prop :=
  ∀ (via : Via) (bytes : List Byte), parseRequest via bytes = .command i → i.wellFormed = true

/-- The port never parses a request into the end of a write or a transfer of the store link. -/
theorem parsed_isRequest {via : Via} {bytes : List Byte} {i : Instr}
    (h : parseRequest via bytes = .command i) :
    (∀ a x, i ≠ .requestWrite a x) ∧ ∀ x, i ≠ .readData x := by
  obtain ⟨code, n, params, _, _, _, _, hc⟩ := Machine.parseRequest_command h
  unfold commandOf at hc
  split at hc
  · unfold bareCommand at hc
    split at hc
    all_goals first
      | (obtain rfl := Option.some.inj hc; exact ⟨nofun, nofun⟩)
      | cases hc
  · unfold pairCommand at hc
    split at hc
    all_goals first
      | (obtain rfl := Option.some.inj hc; exact ⟨nofun, nofun⟩)
      | cases hc
  · unfold tripleCommand at hc
    split at hc
    all_goals first
      | (obtain rfl := Option.some.inj hc; exact ⟨nofun, nofun⟩)
      | cases hc
  · unfold longCommand at hc
    split at hc
    all_goals first
      | (obtain ⟨a, ha, rfl⟩ := Option.map_eq_some_iff.mp hc; exact ⟨nofun, nofun⟩)
      | cases hc

theorem hardReset (autoload : Bool) : Statement (.hardReset autoload) := fun _ _ _ => rfl

theorem svcEnChange (asserted : Bool) : Statement (.svcEnChange asserted) := fun _ _ _ => rfl

theorem frameStart : Statement .frameStart := fun _ _ _ => rfl

theorem heldFrameStart : Statement .heldFrameStart := fun _ _ _ => rfl

theorem pixelLevel (level : Level) : Statement (.pixelLevel level) := fun _ _ _ => rfl

theorem videoTimerExpiry : Statement .videoTimerExpiry := fun _ _ _ => rfl

theorem blankSendOver : Statement .blankSendOver := fun _ _ _ => rfl

theorem faultReport (report : Report) : Statement (.faultReport report) := fun _ _ _ => rfl

theorem requestAccept (address : BitVec 7) (byte : Byte) :
    Statement (.requestAccept address byte) := fun _ _ _ => rfl

theorem requestWrite (address : BitVec 7) (bytes : List Byte) :
    Statement (.requestWrite address bytes) :=
  fun _ _ h => absurd rfl ((parsed_isRequest h).1 address bytes)

theorem answerRead (address : BitVec 7) (count : Nat) :
    Statement (.answerRead address count) := fun _ _ _ => rfl

theorem abort (further : Nat) : Statement (.abort further) := fun _ _ _ => rfl

theorem describe : Statement .describe := fun _ _ _ => rfl

theorem status : Statement .status := fun _ _ _ => rfl

theorem readEvents : Statement .readEvents := fun _ _ _ => rfl

theorem setEventMask (mask : Word16) : Statement (.setEventMask mask) := fun _ _ _ => rfl

theorem readViolation : Statement .readViolation := fun _ _ _ => rfl

theorem openService : Statement .openService := fun _ _ _ => rfl

theorem closeService (via : Via) : Statement (.closeService via) := fun _ _ _ => rfl

theorem restart (via : Via) : Statement (.restart via) := fun _ _ _ => rfl

theorem setGeometry (rowsLessOne colsLessOne : Byte) :
    Statement (.setGeometry rowsLessOne colsLessOne) := fun _ _ _ => rfl

theorem setDrive (via : Via) (driveMax : Word16) (interval : Byte) :
    Statement (.setDrive via driveMax interval) := fun _ _ _ => rfl

theorem setMonitor (via : Via) (debounce healProbes enable : Byte) :
    Statement (.setMonitor via debounce healProbes enable) := fun _ _ _ => rfl

theorem insert (image : RecordImage) : Statement (.insert image) := fun _ _ _ => rfl

theorem amend (select : Byte) (image : RecordImage) :
    Statement (.amend select image) := fun _ _ _ => rfl

theorem retire (row col : Byte) : Statement (.retire row col) := fun _ _ _ => rfl

theorem lookup (row col : Byte) : Statement (.lookup row col) := fun _ _ _ => rfl

theorem next (row col : Byte) : Statement (.next row col) := fun _ _ _ => rfl

theorem sweep (params : SweepParams) : Statement (.sweep params) := fun _ _ _ => rfl

theorem suspects : Statement .suspects := fun _ _ _ => rfl

theorem clearSuspects : Statement .clearSuspects := fun _ _ _ => rfl

theorem save (via : Via) : Statement (.save via) := fun _ _ _ => rfl

theorem load : Statement .load := fun _ _ _ => rfl

theorem findByKey : Statement .findByKey := fun _ _ _ => rfl

theorem findFirstAtOrAfter : Statement .findFirstAtOrAfter := fun _ _ _ => rfl

theorem tableInsert : Statement .tableInsert := fun _ _ _ => rfl

theorem promotionInsert : Statement .promotionInsert := fun _ _ _ => rfl

theorem tableAmend : Statement .tableAmend := fun _ _ _ => rfl

theorem remove : Statement .remove := fun _ _ _ => rfl

theorem faultUpdate : Statement .faultUpdate := fun _ _ _ => rfl

theorem stampProbeFrame : Statement .stampProbeFrame := fun _ _ _ => rfl

theorem sweepStep : Statement .sweepStep := fun _ _ _ => rfl

theorem healStep : Statement .healStep := fun _ _ _ => rfl

theorem statusRead : Statement .statusRead := fun _ _ _ => rfl

theorem geometryChange : Statement .geometryChange := fun _ _ _ => rfl

theorem protectionTest : Statement .protectionTest := fun _ _ _ => rfl

theorem beginSave : Statement .beginSave := fun _ _ _ => rfl

theorem saveRead : Statement .saveRead := fun _ _ _ => rfl

theorem endSave : Statement .endSave := fun _ _ _ => rfl

theorem beginLoad : Statement .beginLoad := fun _ _ _ => rfl

theorem loadGeometry : Statement .loadGeometry := fun _ _ _ => rfl

theorem loadInsert : Statement .loadInsert := fun _ _ _ => rfl

theorem endLoad : Statement .endLoad := fun _ _ _ => rfl

theorem readStatus (statusByte : Byte) : Statement (.readStatus statusByte) := fun _ _ _ => rfl

theorem writeEnable : Statement .writeEnable := fun _ _ _ => rfl

theorem sectorErase : Statement .sectorErase := fun _ _ _ => rfl

theorem pageProgram : Statement .pageProgram := fun _ _ _ => rfl

theorem readData (bytes : List Byte) :
    Statement (.readData bytes) := fun _ _ h => absurd rfl ((parsed_isRequest h).2 bytes)

theorem flashTimeout : Statement .flashTimeout := fun _ _ _ => rfl

end Sys2Proof.Laws.WellFormedOperands
end

