-- ==== Sys2Proof/Laws/Safety.lean ====
section
/-! SUPPORT. The predicates of Safety.lean taken apart, for proofs that compute with them. -/
namespace Sys2Proof.Machine

/-- UnchangedBut, block by block. -/
theorem unchangedBut_iff (bs : List Block) (s t : State) :
    UnchangedBut bs s t ↔
      (Block.table ∈ bs ∨ t.table = s.table) ∧ (Block.arbiter ∈ bs ∨ t.arbiter = s.arbiter) ∧
      (Block.walker ∈ bs ∨ t.walker = s.walker) ∧ (Block.monitor ∈ bs ∨ t.monitor = s.monitor) ∧
      (Block.engine ∈ bs ∨ t.engine = s.engine) ∧ (Block.access ∈ bs ∨ t.access = s.access) ∧
      (Block.store ∈ bs ∨ t.store = s.store) ∧ (Block.events ∈ bs ∨ t.events = s.events) ∧
      (Block.pins ∈ bs ∨ t.pins = s.pins) ∧ t.pending = s.pending := by
  constructor
  · rintro ⟨h, hp⟩
    refine ⟨?_, ?_, ?_, ?_, ?_, ?_, ?_, ?_, ?_, hp⟩
    · exact (Classical.em _).imp id fun hn => h .table hn
    · exact (Classical.em _).imp id fun hn => h .arbiter hn
    · exact (Classical.em _).imp id fun hn => h .walker hn
    · exact (Classical.em _).imp id fun hn => h .monitor hn
    · exact (Classical.em _).imp id fun hn => h .engine hn
    · exact (Classical.em _).imp id fun hn => h .access hn
    · exact (Classical.em _).imp id fun hn => h .store hn
    · exact (Classical.em _).imp id fun hn => h .events hn
    · exact (Classical.em _).imp id fun hn => h .pins hn
  · rintro ⟨h1, h2, h3, h4, h5, h6, h7, h8, h9, hp⟩
    refine ⟨fun b hb => ?_, hp⟩
    cases b
    · exact h1.resolve_left hb
    · exact h2.resolve_left hb
    · exact h3.resolve_left hb
    · exact h4.resolve_left hb
    · exact h5.resolve_left hb
    · exact h6.resolve_left hb
    · exact h7.resolve_left hb
    · exact h8.resolve_left hb
    · exact h9.resolve_left hb

/-- A frame holds of a larger list of blocks too. -/
theorem UnchangedBut.mono {bs cs : List Block} {s t : State} (h : UnchangedBut bs s t)
    (hs : ∀ b ∈ bs, b ∈ cs) : UnchangedBut cs s t :=
  ⟨fun b hb => h.1 b fun hm => hb (hs b hm), h.2⟩

/-- A command out of turn only starts with nothing put out. -/
theorem nothingHappens_iff (c : Instr) (s : State) :
    NothingHappens c s ↔ exec c s = .next s.quiet := Iff.rfl

end Sys2Proof.Machine
end

