-- ==== Sys2Proof/Laws/Table.lean ====
section
/-! SUPPORT. The keyed list of records: what finding, putting, inserting and removing leave. -/
namespace Sys2Proof.Machine

theorem key_of_findKey {k : Key} {rs : List Record} {r : Record} (h : findKey k rs = some r) :
    r.pers.key = k := by
  have := List.find?_some h
  simpa using this

theorem findKey_cons (k : Key) (r : Record) (rs : List Record) :
    findKey k (r :: rs) = if r.pers.key = k then some r else findKey k rs := by
  unfold findKey
  rw [List.find?_cons]
  by_cases h : r.pers.key = k
  · simp [h]
  · simp [h]

theorem findKey_nil (k : Key) : findKey k [] = none := rfl

theorem findKey_putRecord_self {r r' : Record} {rs : List Record}
    (h : findKey r'.pers.key rs = some r) : findKey r'.pers.key (putRecord r' rs) = some r' := by
  induction rs with
  | nil => simp [findKey_nil] at h
  | cons x xs ih =>
    unfold putRecord at ih ⊢
    rw [List.map_cons, findKey_cons]
    rw [findKey_cons] at h
    by_cases hx : x.pers.key = r'.pers.key
    · simp [hx]
    · rw [if_neg hx] at h
      simp only [if_neg hx]
      exact ih h

theorem findKey_putRecord_other {k : Key} {r' : Record} (rs : List Record)
    (h : k ≠ r'.pers.key) : findKey k (putRecord r' rs) = findKey k rs := by
  induction rs with
  | nil => rfl
  | cons x xs ih =>
    unfold putRecord at ih ⊢
    rw [List.map_cons, findKey_cons, findKey_cons, ih]
    by_cases hx : x.pers.key = r'.pers.key
    · rw [if_pos hx, if_neg (Ne.symm h), if_neg (hx ▸ Ne.symm h)]
    · rw [if_neg hx]

theorem putRecord_length (r : Record) (rs : List Record) :
    (putRecord r rs).length = rs.length := List.length_map _

theorem findKey_insertSorted_self {r : Record} {rs : List Record}
    (h : findKey r.pers.key rs = none) : findKey r.pers.key (insertSorted r rs) = some r := by
  induction rs with
  | nil => simp [insertSorted, findKey_cons]
  | cons x xs ih =>
    rw [findKey_cons] at h
    have hx : x.pers.key ≠ r.pers.key := fun e => by simp [e] at h
    rw [if_neg hx] at h
    unfold insertSorted
    split
    · rw [findKey_cons, if_neg hx, ih h]
    · rw [findKey_cons, if_pos rfl]

theorem findKey_insertSorted_other {k : Key} {r : Record} (rs : List Record)
    (h : k ≠ r.pers.key) : findKey k (insertSorted r rs) = findKey k rs := by
  induction rs with
  | nil => simp [insertSorted, findKey_cons, findKey_nil, Ne.symm h]
  | cons x xs ih =>
    unfold insertSorted
    split
    · rw [findKey_cons, findKey_cons, ih]
    · rw [findKey_cons, if_neg (Ne.symm h)]

theorem insertSorted_length (r : Record) (rs : List Record) :
    (insertSorted r rs).length = rs.length + 1 := by
  induction rs with
  | nil => rfl
  | cons x xs ih => unfold insertSorted; split <;> simp [ih]

theorem mem_insertSorted {r x : Record} {rs : List Record} (h : x ∈ insertSorted r rs) :
    x = r ∨ x ∈ rs := by
  induction rs with
  | nil => simpa [insertSorted] using h
  | cons y ys ih =>
    unfold insertSorted at h
    split at h
    · rcases List.mem_cons.mp h with h | h
      · exact .inr (h ▸ List.mem_cons_self)
      · exact (ih h).imp id (List.mem_cons_of_mem _)
    · exact List.mem_cons.mp h

theorem findKey_removeKey_self (k : Key) (rs : List Record) : findKey k (removeKey k rs) = none := by
  simp [findKey, removeKey]

theorem findKey_removeKey_other {k k' : Key} (rs : List Record) (h : k' ≠ k) :
    findKey k' (removeKey k rs) = findKey k' rs := by
  induction rs with
  | nil => rfl
  | cons x xs ih =>
    unfold removeKey at ih ⊢
    rw [List.filter_cons, findKey_cons]
    by_cases hx : x.pers.key = k
    · rw [if_neg (by simpa using hx), if_neg (fun e : x.pers.key = k' => h (e.symm.trans hx)), ih]
    · rw [if_pos (by simpa using hx), findKey_cons, ih]

/-! ## Raster order -/

theorem Key.ne_of_before {a b : Key} (h : a.before b) : a ≠ b := by
  rintro rfl
  rcases h with h | ⟨_, h⟩ <;> exact Nat.lt_irrefl _ h

theorem Key.before_trans {a b c : Key} (h : a.before b) (h' : b.before c) : a.before c := by
  unfold Key.before at *
  omega

/-- Of two different keys one comes before the other. -/
theorem Key.before_or_before {a b : Key} (h : a ≠ b) : a.before b ∨ b.before a := by
  cases a; cases b
  simp only [Key.before, ne_eq, Key.mk.injEq] at *
  omega

/-- In raster order the first record found for a key is the only one. -/
theorem removeKey_length {k : Key} {rs : List Record} {r : Record}
    (ordered : rs.Pairwise fun a b => a.pers.key.before b.pers.key) (h : findKey k rs = some r) :
    (removeKey k rs).length + 1 = rs.length := by
  induction rs with
  | nil => simp [findKey_nil] at h
  | cons x xs ih =>
    rw [List.pairwise_cons] at ordered
    rw [findKey_cons] at h
    unfold removeKey at ih ⊢
    rw [List.filter_cons]
    by_cases hx : x.pers.key = k
    · rw [if_neg (by simpa using hx), List.length_cons]
      rw [List.filter_eq_self.mpr]
      intro a ha
      simpa using fun e => Key.ne_of_before (ordered.1 a ha) (hx.trans e.symm)
    · rw [if_neg hx] at h
      rw [if_pos (by simpa using hx), List.length_cons, List.length_cons, ih ordered.2 h]

/-- In raster order a record of the list is what its key finds. -/
theorem findKey_of_mem {r : Record} {rs : List Record}
    (ordered : rs.Pairwise fun a b => a.pers.key.before b.pers.key) (h : r ∈ rs) :
    findKey r.pers.key rs = some r := by
  induction rs with
  | nil => cases h
  | cons x xs ih =>
    rw [List.pairwise_cons] at ordered
    rw [findKey_cons]
    rcases List.mem_cons.mp h with rfl | h
    · rw [if_pos rfl]
    · rw [if_neg (Key.ne_of_before (ordered.1 r h)), ih ordered.2 h]

/-- An insert of a new key keeps raster order. -/
theorem insertSorted_ordered {r : Record} {rs : List Record}
    (ordered : rs.Pairwise fun a b => a.pers.key.before b.pers.key)
    (h : findKey r.pers.key rs = none) :
    (insertSorted r rs).Pairwise fun a b => a.pers.key.before b.pers.key := by
  induction rs with
  | nil => simp [insertSorted]
  | cons x xs ih =>
    rw [List.pairwise_cons] at ordered
    rw [findKey_cons] at h
    have hx : x.pers.key ≠ r.pers.key := fun e => by simp [e] at h
    rw [if_neg hx] at h
    unfold insertSorted
    split
    · rename_i hb
      rw [List.pairwise_cons]
      refine ⟨fun a ha => ?_, ih ordered.2 h⟩
      rcases mem_insertSorted ha with rfl | ha
      · exact hb
      · exact ordered.1 a ha
    · rename_i hb
      have hr := (Key.before_or_before hx).resolve_left hb
      rw [List.pairwise_cons, List.pairwise_cons]
      refine ⟨fun a ha => ?_, ordered⟩
      rcases List.mem_cons.mp ha with rfl | ha
      · exact hr
      · exact Key.before_trans hr (ordered.1 a ha)

/-- A put keeps raster order. -/
theorem putRecord_ordered {r : Record} {rs : List Record}
    (ordered : rs.Pairwise fun a b => a.pers.key.before b.pers.key) :
    (putRecord r rs).Pairwise fun a b => a.pers.key.before b.pers.key := by
  unfold putRecord
  rw [List.pairwise_map]
  refine ordered.imp fun {a b} h => ?_
  have ha : (if a.pers.key = r.pers.key then r else a).pers.key = a.pers.key := by
    split
    · rename_i e; exact e.symm
    · rfl
  have hb : (if b.pers.key = r.pers.key then r else b).pers.key = b.pers.key := by
    split
    · rename_i e; exact e.symm
    · rfl
  rw [ha, hb]; exact h

/-- A removal keeps raster order. -/
theorem removeKey_ordered {k : Key} {rs : List Record}
    (ordered : rs.Pairwise fun a b => a.pers.key.before b.pers.key) :
    (removeKey k rs).Pairwise fun a b => a.pers.key.before b.pers.key := ordered.filter _

end Sys2Proof.Machine
end

