-- ==== Sys2Proof/Tests/Slice0.lean ====
section
/-! SUPPORT. Tests: the well-formedness smoke, the spec's worked numbers, single steps, and states that meet the hypotheses of the statements. -/
namespace Sys2Proof.Tests
open Sys2Proof Sys2Proof.Machine

/-! ## States -/

/-- The state after a command that goes on. -/
def after (c : Instr) (s : State) : State :=
  match exec c s with
  | .next t => t
  | .fault _ => s
  | .refused _ => s

/-- A command in hand at the unit address. -/
def job (code : Byte) : Job := ⟨code, .unit, none⟩

/-- The engine's operation is in progress for a command in hand. -/
def engineAt (j : Job) (r : EngineReq) (s : State) : State :=
  { s with
    arbiter := { Arbiter.empty with engine := some r, inProgress := some .engine }
    engine := ⟨some j, none, .none⟩ }

/-- The walker's operation is in progress. -/
def walkerAt (r : WalkerReq) (s : State) : State :=
  { s with arbiter := { Arbiter.empty with walker := some r, inProgress := some .walker } }

/-- The monitor's operation is in progress. -/
def monitorAt (r : MonitorReq) (s : State) : State :=
  { s with arbiter := { Arbiter.empty with monitor := some r, inProgress := some .monitor } }

/-- The store's operation is in progress within its sequencing. -/
def storeAt (r : StoreReq) (w : StoreWork) (s : State) : State :=
  { s with
    arbiter := { Arbiter.empty with store := some r, inProgress := some .store }
    store := ⟨w, .none, .none, none⟩ }

/-- The store's flash operation is in hand within its sequencing. -/
def flashAt (op : FlashOp) (w : StoreWork) (s : State) : State :=
  { s with store := ⟨w, .none, op, none⟩ }

def start : State := .reset

def pass : Action := ⟨.pass, 0, false⟩

/-- A DETECTED record with a marked MUTE red, probed in frame 64. -/
def found : Record :=
  ⟨⟨⟨0, 0⟩, .detected, .active, ⟨.mute, 0, true⟩, pass, pass, 0⟩,
    ⟨1, some ⟨.red, .openCircuit, 7⟩, some 64, 2⟩⟩

/-- A FACTORY record at the greatest key. -/
def factory : Record :=
  ⟨⟨⟨127, 255⟩, .factory, .dormant, ⟨.trim, 2047, false⟩, ⟨.hold, 4095, false⟩, pass, 9⟩, .entry⟩

/-- Two records, at the first and the last key. -/
def filled : State :=
  { start with table := ⟨[found, factory], 5, .ready, false, ⟨128, 256⟩⟩ }

def emptied : State := { start with table := { start.table with state := .loading } }

def holding : State := { filled with table := { filled.table with saveHold := true } }

/-- The table at its capacity. -/
def full : State :=
  { start with table := { start.table with records := List.replicate 512 factory } }

/-- A monitor with a report in hand. -/
def busy (st : MonitorState) (entries : List ReportEntry) (s : State) : State :=
  { s with monitor := { s.monitor with state := st, inHand := some ⟨64, false, entries⟩ } }

def entry (row : Byte) : ReportEntry := ⟨row, 0, some .red, some .openCircuit⟩

def suspect (count : Nat) : Suspect := ⟨⟨3, 0⟩, .red, .openCircuit, count, 9, .counting⟩

def suspected (count : Nat) : State :=
  { start with monitor := { start.monitor with suspects := [suspect count] } }

/-- Sixteen suspects of other channels. -/
def crowd : List Suspect :=
  (List.range 16).map fun n => ⟨⟨100, n⟩, .red, .openCircuit, 1, 9, .counting⟩

/-- A frame in hand over a geometry of 1 row and 2 columns. -/
def frame (levels : List Level) (arrived : Nat) (s : State) : State :=
  { s with walker := { s.walker with
      state := .walking
      latches := ⟨⟨1, 2⟩, 4095, .every64, true⟩
      levels := levels
      arrived := arrived
      timer := .running } }

def level (n : Nat) : Level := BitVec.ofNat 12 n

def three : List Level := [level 0, level 4095, level 7]

/-- A SERVICE record image at a key. -/
def image (row col : Byte) : RecordImage := ⟨row, col, 2, 0, ⟨1, 2047⟩, ⟨0, 0⟩, ⟨2, 0⟩, 33⟩

/-- A FACTORY record image at a key. -/
def factoryImage (row col : Byte) : RecordImage := { image row col with origin := 1 }

def sweepAll (action : Byte) : SweepParams := ⟨7, 3, 0, 127, 0, 0, action, 0, 512⟩

def everything : SweepFilter := ⟨true, true, true, true, true, 0, 127, none⟩

def context : SweepContext := ⟨everything, .retire, 0, 1, none, 0, 0, 0, 5⟩

def sweepJob (w : SweepWork) (mark : Bool) : Job := ⟨0x25, .unit, some ⟨w, mark⟩⟩

def header (count : Nat) : Header := ⟨count, 0x1234, ⟨128, 256⟩, 255, .every256, 32, 15, true⟩

def loaded (count slots : Nat) : LoadWork := ⟨some (header count), 0, 0xFFFF, slots, none, none⟩

def saved : SaveWork := { SaveWork.begun with header := some (header 2), erased := 3 }

/-! ## Well-formedness: one ill-formed term for each check -/

theorem test_abortWriteIsNotARequestWrite :
    (Instr.requestWrite 0x58 [0xA5]).wellFormed = false ∧
      (Instr.requestWrite 0x57 [0xA5]).wellFormed = true := by decide

theorem test_transferOfAnotherLength :
    (Instr.readData [1, 2, 3]).wellFormed = false ∧
      (Instr.readData (List.replicate 16 0)).wellFormed = true := by decide

/-! ## The spec's numbers -/

/-- Chapter 1, worked example. -/
theorem test_baseCodes :
    baseCode 2048 3000 = 1500 ∧ baseCode 4095 3000 = 3000 ∧ baseCode 0 3000 = 0 ∧
      probeCode 3000 = 46 := by decide

/-- Chapter 1, worked example: TRIM 1126, HOLD 3500. -/
def worked : Record :=
  ⟨⟨⟨40, 17⟩, .service, .active, ⟨.trim, 1126, false⟩, ⟨.hold, 3500, false⟩, pass, 7⟩, .entry⟩

theorem test_driveCodes :
    driveCode 3000 false (some worked) .red 2048 = 1649 ∧
      driveCode 3000 false (some worked) .green 4095 = 3000 ∧
      driveCode 3000 false (some worked) .blue 0 = 0 ∧
      driveCode 4095 false (some worked) .red 2048 = 2252 ∧
      driveCode 4095 false (some worked) .green 4095 = 3500 := by decide

set_option maxRecDepth 4000 in
/-- The check value of the CRC of R158 over the digits 1 to 9. -/
theorem test_crc :
    crcOver crcStart [0x31, 0x32, 0x33, 0x34, 0x35, 0x36, 0x37, 0x38, 0x39] = 0x29B1#16 := by
  decide

/-- R185: a record image, byte by byte. -/
theorem test_recordBytes :
    recordBytes found.pers = [0, 0, 3, 0, 0x82, 0, 0, 0, 0, 0, 0, 0, 0, 0, 0] ∧
      recordBytes factory.pers = [127, 255, 1, 1, 1, 0x07, 0xFF, 3, 0x0F, 0xFF, 0, 0, 0, 0, 9] := by
  decide

/-- R176: requests written out from the layouts of R185. -/
theorem test_parsedRequests :
    parseRequest .unit [0x11, 3, 0x0B, 0xB8, 3] = .command (.setDrive .unit 3000 3) ∧
      parseRequest .unit [0x22, 2, 40, 17] = .command (.retire 40 17) ∧
      parseRequest .unit [0x22, 1, 40] = .malformed ∧
      parseRequest .unit [0x7F, 0] = .unknown ∧ parseRequest .unit [0x01] = .malformed := by decide

theorem test_parsedInsert :
    parseRequest .unit [0x20, 15, 17, 4, 2, 0, 1, 0x07, 0xFF, 0, 0, 0, 2, 0, 0, 0, 33] =
      .command (.insert (image 17 4)) := by decide

theorem test_parsedSweep :
    parseRequest .unit [0x25, 12, 7, 3, 0, 127, 0, 0, 0, 2, 0, 0, 0x02, 0x00] =
      .command (.sweep (sweepAll 2)) := by decide

/-! ## Single steps -/

theorem test_idleOnAnEmptyQueue : step start = .next start := rfl

theorem test_stepRunsTheFront :
    step { start with pending := [.frameStart, .describe] } =
      exec .frameStart { start with pending := [.describe] } := rfl

theorem test_noWordSpellsACommand :
    decodeTableWord 8 1 = none ∧ start.withFetchWord 8 1 = start := by decide

theorem test_hardReset :
    after (.hardReset false) filled = start ∧ (after (.hardReset true) start).store.state = .loading
      := by decide

theorem test_svcEnChange :
    (after (.svcEnChange false) { start with access := ⟨.service, none, 0⟩ }).events.has
      .serviceClosed = true := by decide

theorem test_frameStart :
    (after .frameStart start).walker.frameNumber = 1 ∧
      (after .frameStart start).out.drive = [.startMark] := by decide

theorem test_pixelLevel :
    (after (.pixelLevel (level 5)) (frame [level 1, level 2] 2 start)).arbiter.walkerOp =
      some (.find ⟨0, 0⟩) := by decide

theorem test_heldFrameStart :
    (after .heldFrameStart { start with
      walker := { start.walker with state := .waiting, held := true } }).walker.state = .walking := by
  decide

theorem test_videoTimerExpiry :
    (after .videoTimerExpiry (frame three 3 start)).walker.state = .blank := by decide

theorem test_blankSendOver :
    (after .blankSendOver start).out.drive = [.zeros 98304, .latch 0 false] := by decide

theorem test_faultReport :
    (after (.faultReport ⟨1, false, [entry 3]⟩) start).arbiter.monitorOp =
      some (.faultUpdate ⟨3, 0⟩ .red .openCircuit 1) := by decide

theorem test_requestAccept :
    (after (.requestAccept 0x58 0x20) start).engine.write = .unitAccepted ∧
      (after (.requestAccept 0x59 0x20) start).out.port = [.address false] := by decide

theorem test_requestWrite :
    (after (.requestWrite 0x58 [0x7F, 0]) start).engine.answer = some ⟨.unknown, []⟩ ∧
      (after (.requestWrite 0x58 [0x01, 0]) start) = after .describe start := by decide

/-- Chapter 11, worked example, step 4, with two bytes past the answer. -/
theorem test_answerRead :
    (after (.answerRead 0x58 8) { start with
      engine := ⟨none, some ⟨.ok, be32 813⟩, .none⟩ }).out.port =
      [.address true, .sent [0, 4, 0, 0, 3, 45, 0xFF, 0xFF]] := by decide

theorem test_abort :
    (after (.abort 2) (engineAt (sweepJob (.stepping context) false) .statusRead filled)).engine.hand
      = some (sweepJob (.stepping context) true) := by decide

theorem test_describe :
    (after .describe start).engine.answer = some ⟨.ok, describeAnswer ⟨128, 256⟩⟩ ∧
      (describeAnswer ⟨128, 256⟩).length = 33 := by decide

theorem test_status :
    (after .statusRead (after .status filled)).engine.answer.map Answer.bytes =
      some [0, 25, 0, 0, 0, 5, 0, 2, 0, 0, 0, 0, 0, 0, 0, 0, 0, 0, 0, 0, 0, 1, 0, 0, 0, 0, 0] := by
  decide

theorem test_readEvents :
    (after .readEvents (start.raise .videoLost)).engine.answer.map Answer.data =
      some [0x08, 0, 0, 0, 0, 0, 0, 0, 0, 0, 0] := by decide

theorem test_setEventMask :
    (after (.setEventMask 0x3FFF) start).engine.answer = some ⟨.ok, [0x3F, 0xFF]⟩ ∧
      (after (.setEventMask 0x4000) start).engine.answer = some ⟨.badField, []⟩ := by decide

theorem test_openService :
    (after .openService start).engine.answer = some ⟨.notPermitted, []⟩ ∧
      (after .openService start).access.violation = some ⟨6, none, .operator, .notPermitted⟩ := by
  decide

theorem test_readViolation :
    (after .readViolation { start with access := ⟨.operator, some ⟨6, none, .operator,
      .notPermitted⟩, 255⟩ }).engine.answer = some ⟨.ok, [1, 6, 0, 0, 0, 0, 0x98, 255]⟩ := by decide

theorem test_closeService :
    (after (.closeService .group) { start with access := ⟨.service, none, 0⟩ }).access.level =
      .operator := by decide

theorem test_restart :
    (after (.restart .unit) filled).engine.answer = none ∧
      (after (.restart .unit) filled).table = filled.table := by decide

theorem test_setGeometry :
    (after .geometryChange (after (.setGeometry 1 2) start)).table.geometry = ⟨2, 3⟩ ∧
      (after (.setGeometry 128 0) start).engine.answer = some ⟨.badField, []⟩ := by decide

theorem test_setDrive :
    (after (.setDrive .unit 3000 3) start).walker.driveMax = 3000 ∧
      (after (.setDrive .unit 254 3) start).engine.answer = some ⟨.badField, []⟩ := by decide

theorem test_setMonitor :
    (after (.setMonitor .unit 2 1 0) start).monitor.state = .off ∧
      (after (.setMonitor .unit 2 1 0) start).engine.answer = some ⟨.ok, [2, 1, 0]⟩ := by decide

theorem test_insert :
    (after .tableInsert (after (.insert (image 17 4)) filled)).engine.answer =
      some ⟨.ok, [0, 0, 0, 6]⟩ := by decide

theorem test_amendAdopts :
    ((after .tableAmend (after (.amend 0x10 (image 0 0)) filled)).table.find ⟨0, 0⟩).map
        (fun r => r.pers.origin) = some .detected ∧
      ((after .tableAmend (after (.amend 0x02 (image 0 0)) filled)).table.find ⟨0, 0⟩).map
        (fun r => r.pers.origin) = some .service := by decide

theorem test_retireProtected :
    (after .remove (after (.retire 127 255) filled)).engine.answer =
      some ⟨.protected_, [0, 0, 0, 5]⟩ := by decide

theorem test_lookup :
    (after .findByKey (after (.lookup 0 0) filled)).engine.answer.map Answer.data =
      some ([0, 0, 0, 5, 0, 0, 3, 0, 0x82, 0, 0, 0, 0, 0, 0, 0, 0, 0, 0] ++
        [1, 1, 0, 0, 0, 0, 7, 1, 0, 0, 0, 64, 2]) := by decide

theorem test_next :
    ((after .findFirstAtOrAfter (after (.next 0 1) filled)).engine.answer.map Answer.data).map
      (fun d => d.take 6) = some [0, 0, 0, 5, 127, 255] := by decide

theorem test_sweep :
    (after .statusRead (after (.sweep (sweepAll 2)) filled)).arbiter.engineOp =
      some (.sweepStep none everything .retire 0) := by decide

/-- R4 item 4: the row range is tested against the geometry in force when SWEEP was taken. -/
theorem test_sweepKeepsItsGeometry :
    (after .statusRead (engineAt (sweepJob (.starting (sweepAll 2) ⟨127, 256⟩) false) .statusRead
      start)).engine.answer = some ⟨.outOfRange, [0, 0, 0, 0]⟩ := by decide

theorem test_suspects :
    (after .suspects (suspected 2)).engine.answer = some ⟨.ok, [1, 3, 0, 0, 2, 0]⟩ := by decide

theorem test_clearSuspects :
    (after .clearSuspects (suspected 2)).engine.answer = some ⟨.ok, [1]⟩ ∧
      (after .clearSuspects (suspected 2)).monitor.suspects = [] := by decide

theorem test_save :
    (after (.save .unit) start).store.due = some .save ∧
      (after (.save .unit) emptied).engine.answer = some ⟨.storeBusy, []⟩ := by decide

/-- R159, R126: a command taken after STARTED may have its operation granted before begin save. -/
theorem test_insertBeforeBeginSave :
    (after .tableInsert (after (.insert (image 17 4)) (after (.save .unit) start))).engine.answer =
        some ⟨.ok, [0, 0, 0, 1]⟩ ∧
      (after .beginSave (after (.insert (image 17 4)) (after (.save .unit) start))).arbiter.store =
        some .beginSave := by decide

/-- R163, R127: begin load waits for a lookup granted after STARTED. -/
theorem test_lookupBeforeBeginLoad :
    (after .findByKey (after (.lookup 0 0) (after .protectionTest
      (after .load start)))).engine.answer.map Answer.code = some .noRecord ∧
      (after .beginLoad (after .protectionTest (after .load start))).table.state = .loading := by
  decide

theorem test_load :
    (after .protectionTest (after .load filled)).engine.answer = some ⟨.protected_, []⟩ ∧
      (after .protectionTest (after .load start)).engine.answer = some ⟨.started, []⟩ := by decide

theorem test_promotionInsert :
    (after .promotionInsert (monitorAt (.promote ⟨3, 0⟩ .red .openCircuit 9)
      (suspected 4))).table.records.map (fun r => r.pers.key) = [⟨3, 0⟩] := by decide

theorem test_faultUpdate :
    (after .faultUpdate (monitorAt (.faultUpdate ⟨0, 0⟩ .green .shortCircuit 70)
      (busy .processing [entry 0] filled))).events.promotedKey = some ⟨0, 0⟩ := by decide

theorem test_stampProbeFrame :
    ((after .stampProbeFrame (walkerAt (.stamp ⟨0, 0⟩ 128 [.red])
      (frame three 3 filled))).table.find ⟨0, 0⟩).map (fun r => r.vol.probeFrame) =
      some (some 128) := by decide

theorem test_sweepStep :
    (after .sweepStep (engineAt (sweepJob (.stepping context) false)
      (.sweepStep none everything .retire 0) filled)).engine.answer =
      some ⟨.ok, [0, 0, 0, 6, 1, 0, 1, 0, 1, 0, 0, 1, 0, 0]⟩ := by decide

theorem test_healStep :
    (after .healStep (monitorAt (.heal none 64 3) (busy .healing [] filled))).events.healedKey =
      some ⟨0, 0⟩ := by decide

theorem test_beginSave :
    (after .beginSave (after (.save .unit) start)).table.saveHold = true ∧
      (after .beginSave (after (.save .unit) start)).out.flash = [⟨[0x05], 1⟩] := by decide

theorem test_saveRead :
    (after .saveRead (storeAt (.saveRead none) (.saving saved) holding)).arbiter.storeOp =
      some (.saveRead (some ⟨0, 0⟩)) := by decide

theorem test_endSave :
    (after .endSave (storeAt .endSave (.saving saved) holding)).store.lastResult = .saved := by decide

theorem test_beginLoad :
    (after .beginLoad (storeAt .beginLoad (.loading .begun) filled)).table.records = [] ∧
      (after .beginLoad (storeAt .beginLoad (.loading .begun) filled)).out.flash = [⟨[0x05], 1⟩] := by
  decide

theorem test_loadGeometry :
    (after .loadGeometry (storeAt (.loadGeometry ⟨1, 1⟩) (.loading (loaded 1 0))
      emptied)).out.flash = [⟨[0x03, 0, 1, 0], 16⟩] := by decide

theorem test_loadInsert :
    (after .loadInsert (storeAt (.loadInsert found.pers) (.loading (loaded 1 0))
      emptied)).table.records = [⟨found.pers, .entry⟩] := by decide

theorem test_endLoad :
    (after .endLoad (storeAt .endLoadFailure (.loading .begun) emptied)).store.lastResult = .imageBad
      := by decide

/-- R59, R167: a SET_DRIVE taken while end load waits is written over at the load's end. -/
theorem test_setDriveDuringEndLoad :
    (after (.setDrive .unit 3000 1) (storeAt (.endLoadSuccess 7) (.loading (loaded 0 0))
        emptied)).walker.driveMax = 3000 ∧
      (after .endLoad (after (.setDrive .unit 3000 1) (storeAt (.endLoadSuccess 7)
        (.loading (loaded 0 0)) emptied))).walker.driveMax = 255 := by decide

theorem test_readStatus :
    (after (.readStatus 0) (flashAt (.polling 400) (.saving .begun) start)).store.flash =
      .enabling (.erase 0) := by decide

theorem test_writeEnable :
    (after .writeEnable (flashAt (.enabling (.erase 4096)) (.saving .begun) start)).out.flash =
      [⟨[0x20, 0, 0x10, 0], 0⟩] := by decide

theorem test_sectorErase :
    (after .sectorErase (flashAt (.running (.erase 4096)) (.saving .begun) start)).store.flash =
      .polling 400 := by decide

theorem test_pageProgram :
    (after .pageProgram (flashAt (.running (.program 256 [1])) (.saving saved) start)).store.flash =
      .polling 5 := by decide

theorem test_readData :
    (after (.readData (headerBytes (header 512) 0))
      (flashAt (.reading 0 32) (.loading .begun) emptied)).arbiter.storeOp =
      some (.loadGeometry ⟨128, 256⟩) := by decide

theorem test_flashTimeout :
    (after .flashTimeout (flashAt (.polling 400) (.saving .begun) holding)).arbiter.storeOp =
      some .endSave := by decide

/-! ## Witnesses: states and operands that meet the hypotheses of the statements, clause by clause -/

theorem witness_StepRunsTheFrontCommand :
    ({ start with pending := [.describe, .status] } : State).pending = .describe :: [.status] := rfl

/-- No operation is in progress and none is due. -/
theorem witness_EveryStepGoesOn :
    start.pending = [] ∧ start.arbiter.walkerOp = none ∧ start.arbiter.engineOp = none ∧
      start.arbiter.monitorOp = none ∧ start.arbiter.storeOp = none ∧ start.store.due = none := by
  decide

theorem witness_RestartResetsFourBlocks :
    (∀ via, start.refusesWrite via = false) ∧ start.store.state = .idle ∧
      start.arbiter.inProgress ≠ some .walker ∧ start.arbiter.inProgress ≠ some .monitor ∧
      (walkerAt (.stamp ⟨0, 0⟩ 128 [.red]) filled).arbiter.walkerOp =
        some (.stamp ⟨0, 0⟩ 128 [.red]) ∧
      (monitorAt (.faultUpdate ⟨0, 0⟩ .red .openCircuit 7) filled).arbiter.monitorOp =
        some (.faultUpdate ⟨0, 0⟩ .red .openCircuit 7) ∧
      (monitorAt (.promote ⟨3, 0⟩ .red .openCircuit 7) filled).arbiter.monitorOp =
        some (.promote ⟨3, 0⟩ .red .openCircuit 7) ∧
      (monitorAt (.heal none 64 3) filled).arbiter.monitorOp = some (.heal none 64 3) := by
  refine ⟨fun via => ?_, by decide⟩
  cases via <;> decide

theorem witness_DriveMaxScalesAFrame :
    (255 ≤ 255 ∧ 4095 ≤ 4095) ∧ (∀ a, Instr.frameStart ≠ .hardReset a) ∧
      exec .frameStart start = .next (after .frameStart start) := ⟨by decide, nofun, rfl⟩

/-- A record of each status and mode; a probing frame, and a table that gives no record. -/
theorem witness_DriveCodeOfEachAction :
    (frame [] 0 filled).probing = true ∧ (frame [] 0 emptied).probing = false ∧
      probedColours true (some found) = [.red] ∧ countsAsApplied (some factory) = false ∧
      filled.table.walkerFind ⟨0, 0⟩ = some found ∧
      ({ filled.table with state := .loading }).walkerFind ⟨0, 0⟩ = none ∧
      factory.pers.status = .dormant ∧ found.pers.status = .active ∧
      (found.pers.action .green).mode = .pass ∧ (found.pers.action .red).mode = .mute ∧
      worked.pers.status = .active ∧ (worked.pers.action .red).mode = .trim ∧
      (worked.pers.action .green).mode = .hold := by decide

/-- A WAITING walker with a frame start held. -/
def waiting : State := { start with walker := { start.walker with state := .waiting, held := true } }

/-- R44, R53: the levels that waited with a held frame start are taken when it begins. -/
theorem test_heldLevelsAreTaken :
    (after .heldFrameStart { waiting with
        walker := { waiting.walker with heldLevels := three } }).walker.levels = three ∧
      (after .heldFrameStart { waiting with
        walker := { waiting.walker with heldLevels := three } }).arbiter.walkerOp =
          some (.find ⟨0, 0⟩) := by decide

theorem witness_FrameStartBeginsAFrame :
    (start.walker.state ≠ .walking ∧ start.walker.held = false ∧ start.walker.heldLevels = []) ∧
      ((frame [] 6 start).walker.state = .walking ∧ (frame [] 6 start).walker.ending = none ∧
        (frame [] 6 start).walker.arrived = (frame [] 6 start).walker.frameLevels) ∧
      (waiting.walker.held = true ∧ waiting.walker.state ≠ .walking) ∧
      ¬ (start.walker.held = true ∧ start.walker.state ≠ .walking) := by decide

/-- R53: a frame start in place of a held one, and an expiry in a frame marked to end. -/
theorem test_heldAndMarked :
    (after .frameStart waiting).walker.state = .waiting ∧
      (after .frameStart { frame [] 5 start with
        walker := { (frame [] 5 start).walker with ending := some .lost } }).walker.held = true ∧
      (after .videoTimerExpiry { frame [] 5 start with
        walker := { (frame [] 5 start).walker with ending := some .short } }).walker.state =
          .walking := by decide

/-- The frame in hand is marked to end. -/
def endingAs (e : Ending) (s : State) : State :=
  { s with walker := { s.walker with ending := some e } }

/-- R54: the outcome of the find of a frame cut short is set aside. -/
theorem test_shortFrameSetsTheFindAside :
    (after .findByKey (endingAs .short
      (frame three 5 (walkerAt (.find ⟨0, 0⟩) filled)))).out.drive = [.startMark] ∧
      (after .findByKey (endingAs .lost
        (frame three 5 (walkerAt (.find ⟨0, 0⟩) filled)))).walker.state = .blank := by decide

/-- Five of six levels, with the walker free and with its find or its stamp unfinished. -/
theorem witness_FrameStartEndsAFrameShort :
    ((endingAs .short (walkerAt (.find ⟨0, 0⟩) filled)).arbiter.walkerOp =
          some (.find ⟨0, 0⟩) ∧
        (endingAs .short (walkerAt (.stamp ⟨0, 0⟩ 128 [.red]) filled)).arbiter.walkerOp =
          some (.stamp ⟨0, 0⟩ 128 [.red]) ∧
        (endingAs .short filled).walker.ending = some .short) ∧
    (frame three 5 start).walker.state = .walking ∧ (frame three 5 start).walker.ending = none ∧
      (frame three 5 start).walker.arrived ≠ (frame three 5 start).walker.frameLevels ∧
      (frame three 5 start).arbiter.walker = none ∧
      (frame three 5 (walkerAt (.find ⟨0, 0⟩) start)).arbiter.walker ≠ none := by decide

theorem witness_PixelLevelIsTakenOrIgnored :
    waiting.walker.state ≠ .walking ∧
      (endingAs .short (frame three 5 start)).walker.ending = some .short ∧
      (endingAs .short (frame three 5 start)).walker.state = .walking ∧
      ((frame [level 1, level 2] 5 start).walker.held = false ∧
        (frame [level 1, level 2] 5 start).walker.ending ≠ some .short ∧
        (frame [level 1, level 2] 5 start).walker.state = .walking ∧
        (frame [level 1, level 2] 5 start).walker.arrived <
          (frame [level 1, level 2] 5 start).walker.frameLevels ∧
        (frame [level 1, level 2] 5 start).arbiter.walker = none ∧
        2 ≤ (frame [level 1, level 2] 5 start).walker.levels.length) ∧
      ¬ 2 ≤ (frame [level 1] 4 start).walker.levels.length ∧
      ¬ (frame [] 6 start).walker.arrived < (frame [] 6 start).walker.frameLevels := by decide

theorem witness_VideoIsLostAndBlanked :
    start.walker.timer = .stopped ∧ start.monitor.nothingOverdue ∧
      start.monitor.atRest = true ∧ (busy .healing [] start).monitor.atRest = false ∧
      (frame three 5 start).walker.timer = .running ∧
      (frame three 5 start).walker.state = .walking ∧ (frame three 5 start).walker.ending = none ∧
      (frame three 5 start).walker.arrived ≠ (frame three 5 start).walker.frameLevels ∧
      (frame three 5 start).arbiter.walker = none ∧
      (frame three 5 (walkerAt (.find ⟨0, 0⟩) start)).arbiter.walker ≠ none ∧
      (frame [] 6 start).walker.arrived = (frame [] 6 start).walker.frameLevels ∧
      (endingAs .lost (walkerAt (.find ⟨0, 0⟩) filled)).arbiter.walkerOp =
        some (.find ⟨0, 0⟩) ∧
      (endingAs .lost (walkerAt (.stamp ⟨0, 0⟩ 128 [.red]) filled)).arbiter.walkerOp =
        some (.stamp ⟨0, 0⟩ 128 [.red]) ∧
      (endingAs .lost filled).walker.ending = some .lost ∧
      (endingAs .lost (frame three 5 start)).walker.ending ≠ none ∧
      (endingAs .lost (frame three 5 start)).walker.state = .walking ∧
      start.walker.state = .idle ∧ start.walker.blankSend = some ⟨128, 256⟩ ∧
      (frame [] 6 (after .blankSendOver start)).walker.blankSend = none := by
  refine ⟨by decide, fun _ => rfl, by decide⟩

/-- The walker finds nothing, and on a probe frame a marked MUTE red. -/
def walking : State := frame (three ++ three) 6 (walkerAt (.find ⟨0, 0⟩) filled)

theorem witness_WalkerFindDrivesAnEmitter :
    (walking.arbiter.walkerOp = some (.find ⟨0, 0⟩) ∧ walking.walker.state = .walking ∧
      walking.walker.ending = none ∧
      walking.walker.levels = level 0 :: level 4095 :: level 7 :: three ∧
      walking.walker.position ≠ walking.walker.latches.geometry.last) ∧
      probedColours walking.probing (walking.table.walkerFind ⟨0, 0⟩) ≠ [] ∧
      probedColours walking.probing (walking.table.walkerFind ⟨127, 255⟩) = [] := by decide

def lastEmitter : State :=
  { frame three 6 (walkerAt (.find ⟨0, 1⟩) filled) with
    walker := { (frame three 6 filled).walker with position := ⟨0, 1⟩ } }

/-- The stamp of the last emitter is unfinished, with or without an expiry held. -/
def stampingLast (expiry : Bool) : State :=
  { walkerAt (.stamp ⟨0, 1⟩ 128 [.red]) filled with
    walker := { lastEmitter.walker with heldExpiry := expiry } }

theorem witness_LastEmitterCompletesTheFrame :
    lastEmitter.arbiter.walkerOp = some (.find ⟨0, 1⟩) ∧ lastEmitter.walker.ending = none ∧
      lastEmitter.walker.levels = [level 0, level 4095, level 7] ∧
      lastEmitter.walker.position = lastEmitter.walker.latches.geometry.last ∧
      probedColours lastEmitter.probing (lastEmitter.table.walkerFind ⟨0, 1⟩) = [] ∧
      (stampingLast false).arbiter.walkerOp = some (.stamp ⟨0, 1⟩ 128 [.red]) ∧
      (stampingLast false).walker.ending = none ∧
      (stampingLast false).walker.position = (stampingLast false).walker.latches.geometry.last ∧
      (stampingLast false).walker.heldExpiry = false ∧
      (stampingLast true).walker.heldExpiry = true ∧ (stampingLast true).walker.held = false ∧
      (stampingLast true).monitor.nothingOverdue :=
  ⟨by decide, by decide, by decide, by decide, by decide, by decide, by decide, by decide,
    by decide, by decide, by decide, fun _ => rfl⟩

/-- R52, R53: the frame completes in the stamp of its last emitter, and the held expiry is taken. -/
theorem test_stampCompletesTheFrame :
    (after .stampProbeFrame (stampingLast false)).walker.state = .waiting ∧
      (after .stampProbeFrame (stampingLast true)).walker.state = .blank ∧
      (after .stampProbeFrame (stampingLast true)).walker.lastCompleted = some 0 := by decide

/-- R42: the count of a frame that has counted 512 stays. -/
theorem test_runningCountStaysAt512 :
    (after .findByKey { walking with
      walker := { walking.walker with running := 512 } }).walker.running = 512 := by decide

def stamping : State := frame three 3 (walkerAt (.stamp ⟨0, 0⟩ 128 [.red]) filled)

theorem witness_StampWritesTheProbeFrame :
    (stamping.arbiter.walkerOp = some (.stamp ⟨0, 0⟩ 128 [.red]) ∧ stamping.table.state = .ready ∧
      stamping.table.find ⟨0, 0⟩ = some found ∧ found.pers.status = .active ∧
      (found.pers.action .red).mode = .mute ∧ (found.pers.action .red).auto = true) ∧
      (found.pers.action .green).mode ≠ .mute ∧ stamping.walker.ending = none ∧
      stamping.walker.position ≠ stamping.walker.latches.geometry.last := by decide

theorem witness_FaultReportIsTakenOrNot :
    (start.monitor.state = .idle ∧ start.monitor.loadMark = false ∧ start.monitor.waiting = [] ∧
      start.monitor.buffer = none ∧ start.monitor.suspects = [] ∧
      start.table.geometry.contains ⟨(127 : Byte).toNat, (255 : Byte).toNat⟩ ∧
      (List.replicate 48 (entry 127)).length ≤ 48) ∧
      (suspected 2).monitor.suspects = suspect 2 :: [] ∧
      (after (.setMonitor .unit 2 1 0) start).monitor.state = .off ∧
      (after (.hardReset true) start).monitor.loadMark = true ∧
      (busy .processing [] start).monitor.buffer = none ∧
      (after (.faultReport ⟨1, true, []⟩) (busy .healing [] start)).monitor.buffer ≠ none := by
  decide

/-- Requests wait at a monitor with a report in hand. -/
def asked (asks : List MonitorAsk) (s : State) : State :=
  { s with monitor := { s.monitor with waiting := asks } }

/-- R64, R71: of 49 entries 48 are kept, truncated; an ignored first entry is passed. -/
theorem test_longReport :
    ((after (.faultReport ⟨1, false, List.replicate 49 (entry 3)⟩) start).monitor.inHand.map
        fun r => (r.truncated, r.entries.length)) = some (true, 48) ∧
      (after (.faultReport ⟨1, false, [entry 128, entry 3]⟩) start).arbiter.monitorOp =
        some (.faultUpdate ⟨3, 0⟩ .red .openCircuit 1) ∧
      (after (.faultReport ⟨1, false, [entry 128, entry 3]⟩) start).monitor.entryPosition = 1 := by
  decide

/-- R66, R79: the buffered report is taken at the end of the heal pass, without IDLE. -/
theorem test_bufferedReportIsTaken :
    (after .healStep (monitorAt (.heal none 1 3) (after (.faultReport ⟨7, false, [entry 3]⟩)
      (busy .healing [] start)))).arbiter.monitorOp =
        some (.faultUpdate ⟨3, 0⟩ .red .openCircuit 7) := by decide

/-- Ignored entries before a counted one, no other entry, and the step point of a report taken in hand with and without a request that drops it. -/
theorem witness_reportEntries :
    CountedAt start.table.geometry [entry 128, entry 3] 1 (⟨3, 0⟩, .red, .openCircuit) ∧
      IgnoredAt start.table.geometry [entry 128, entry 3] 0 ∧
      (asked [.setMonitor .unit 4 3 false] (busy .processing [] start)).stepPoint.monitor.inHand =
        none ∧
      (asked [.emptyList] (busy .processing [] start)).stepPoint.monitor.inHand ≠ none ∧
      (asked [.suspects] (busy .processing [] (suspected 2))).stepPoint.monitor.suspects ≠ [] ∧
      start.monitor.buffer = none :=
  ⟨⟨entry 3, by decide⟩, ⟨entry 128, by decide⟩, by decide⟩

/-- A report whose first entry has been handled. -/
def handling : State := busy .processing [entry 3, entry 4] start

theorem witness_HandledEntryLeadsOn :
    (handling.monitor.inHand = some ⟨64, false, [entry 3, entry 4]⟩ ∧
      handling.monitor.waiting = [] ∧
      [entry 3, entry 4][handling.monitor.entryPosition]? = some (entry 3) ∧
      [entry 3, entry 4][handling.monitor.entryPosition + 1]? = some (entry 4) ∧
      countedEntry handling.table.geometry (some (entry 3)) (entry 4) =
        some (⟨4, 0⟩, .red, .openCircuit)) ∧
      countedEntry handling.table.geometry (some (entry 3)) (entry 3) = none ∧
      [entry 3].length = (busy .processing [entry 3] start).monitor.entryPosition + 1 ∧
      (busy .processing [entry 3] start).monitor.buffer = none ∧
      (busy .processing [] start).monitor.inHand = some ⟨64, false, []⟩ ∧
      ([] : List ReportEntry).length ≤ (busy .processing [] start).monitor.entryPosition := by decide

theorem witness_SuspectCheckRemovesFiledSuspects :
    (monitorAt (.find ⟨0, 0⟩) filled).arbiter.monitorOp = some (.find ⟨0, 0⟩) ∧
      (monitorAt (.find ⟨0, 0⟩) filled).table.state = .ready ∧
      (monitorAt (.find ⟨0, 0⟩) filled).table.find ⟨0, 0⟩ ≠ none ∧
      (monitorAt (.find ⟨0, 1⟩) filled).table.find ⟨0, 1⟩ = none ∧
      (monitorAt (.find ⟨0, 0⟩) emptied).table.state = .loading ∧
      (monitorAt (.find ⟨0, 0⟩) emptied).monitor.waiting = [] := by decide

/-- A fault update of a channel in a state. -/
def updating (k : Key) (c : Colour) (s : State) : State :=
  monitorAt (.faultUpdate k c .openCircuit 70) s

theorem witness_FaultUpdateCountsAndExtends :
    (updating ⟨0, 0⟩ .green filled).arbiter.monitorOp =
        some (.faultUpdate ⟨0, 0⟩ .green .openCircuit 70) ∧
      filled.table.state = .ready ∧ emptied.table.state = .loading ∧
      filled.table.find ⟨0, 1⟩ = none ∧ filled.table.find ⟨0, 0⟩ = some found ∧
      found.pers.origin = .detected ∧ (found.pers.action .green).mode ≠ .mute ∧
      (found.pers.action .red).mode = .mute ∧ filled.table.saveHold = false ∧
      holding.table.saveHold = true ∧ filled.table.find ⟨127, 255⟩ = some factory ∧
      factory.pers.origin ≠ .detected := by decide

theorem witness_FaultUpdateOutcomeIsActedOn :
    ((emptied.table.faultUpdate ⟨0, 0⟩ .red .openCircuit 70).2 = .loading ∧
      (filled.table.faultUpdate ⟨0, 0⟩ .green .openCircuit 70).2 = .extended ∧
      (holding.table.faultUpdate ⟨0, 0⟩ .green .openCircuit 70).2 = .extensionSkipped ∧
      (filled.table.faultUpdate ⟨0, 0⟩ .red .openCircuit 70).2 = .updated ∧
      (filled.table.faultUpdate ⟨127, 255⟩ .red .openCircuit 70).2 = .notDetected) ∧
      (suspected 3).table.find ⟨3, 0⟩ = none ∧
      (suspected 3).monitor.suspects.find? (fun x => x.key = ⟨3, 0⟩ ∧ x.colour = .red) =
        some (suspect 3) ∧
      (suspected 3).monitor.latchedDebounce ≤ min (3 + 1) 32 ∧
      ¬ (suspected 2).monitor.latchedDebounce ≤ min (2 + 1) 32 ∧
      (suspected 3).monitor.suspects.find? (fun x => x.key = ⟨3, 0⟩ ∧ x.colour = .green) = none ∧
      (suspected 3).monitor.suspects.length < 16 ∧ 16 ≤ crowd.length := by decide

theorem witness_PromotionInsertFilesARecord :
    (monitorAt (.promote ⟨3, 0⟩ .red .openCircuit 9) filled).arbiter.monitorOp =
        some (.promote ⟨3, 0⟩ .red .openCircuit 9) ∧
      filled.table.state = .ready ∧ filled.table.geometry.contains ⟨127, 255⟩ ∧
      ¬ filled.table.geometry.contains ⟨128, 0⟩ ∧ filled.table.find ⟨3, 0⟩ = none ∧
      filled.table.find ⟨0, 0⟩ = some found ∧ filled.table.saveHold = false ∧
      filled.table.records.length < 512 ∧ holding.table.saveHold = true ∧
      holding.table.find ⟨3, 0⟩ = none ∧ holding.table.geometry.contains ⟨3, 0⟩ ∧
      emptied.table.state = .loading := by decide

theorem witness_tableAtCapacity : 512 ≤ full.table.records.length := by
  show 512 ≤ (List.replicate 512 factory).length
  rw [List.length_replicate]

theorem witness_PromotionOutcomeIsActedOn :
    (filled.table.promote ⟨3, 0⟩ .red .openCircuit 9).2 = .inserted ∧
      (filled.table.promote ⟨128, 0⟩ .red .openCircuit 9).2 = .outside ∧
      (holding.table.promote ⟨3, 0⟩ .red .openCircuit 9).2 = .heldBySave ∧
      (emptied.table.promote ⟨3, 0⟩ .red .openCircuit 9).2 = .loading ∧
      (filled.table.promote ⟨0, 0⟩ .green .openCircuit 9).2 = .merged .extended ∧
      (filled.table.promote ⟨127, 255⟩ .red .openCircuit 9).2 = .merged .notDetected ∧
      (suspected 4).monitor.waiting = [] ∧
      (suspected 4).monitor.counting ⟨3, 0⟩ .red = true := by decide

/-- Raster order, capacity and keys inside the geometry, with records at the first and the last key. -/
theorem witness_tableLawful : filled.table.lawful := by
  unfold Table.lawful
  decide

theorem witness_HealStepCountsAndRetires :
    (monitorAt (.heal none 64 3) filled).arbiter.monitorOp = some (.heal none 64 3) ∧
      filled.table.records.find? (fun r => aheadOf none r.pers.key ∧ r.pers.origin = .detected ∧
        r.vol.probeFrame = some 64) = some found ∧
      filled.table.records.find? (fun r => aheadOf (some ⟨0, 0⟩) r.pers.key ∧
        r.pers.origin = .detected ∧ r.vol.probeFrame = some 64) = none ∧
      found.healCountAfter 64 = 3 ∧ found.healCountAfter 7 = 0 ∧ emptied.table.state = .loading := by
  decide

theorem witness_HealPassGoesOnOrEnds :
    (monitorAt (.heal none 64 3) (busy .healing [] filled)).monitor.inHand =
        some ⟨64, false, []⟩ ∧
      (asked [.setMonitor .unit 4 3 false] (busy .healing [] filled)).stepPoint.monitor.inHand =
        none ∧
      (busy .healing [] filled).stepPoint.monitor.inHand = some ⟨64, false, []⟩ ∧
      (filled.table.healStep none 64 3).2 = .healed ⟨0, 0⟩ ∧
      (filled.table.healStep none 64 4).2 = .counted ⟨0, 0⟩ ∧
      (holding.table.healStep none 64 3).2 = .deferred ⟨0, 0⟩ ∧
      (filled.table.healStep (some ⟨0, 0⟩) 64 3).2 = .endOfPass ∧
      (emptied.table.healStep none 64 3).2 = .loading := by decide

/-- The least and the greatest settings, and one past each. -/
theorem witness_MonitorCommandsAreTaken :
    start.refusesWrite .unit = false ∧ start.refusesWrite .group = false ∧
      start.monitor.nothingOverdue ∧ (busy .healing [] start).monitor.nothingOverdue ∧
      start.monitor.atRest = true ∧ (busy .healing [] start).monitor.atRest = false ∧
      monitorSettingsValid 2 1 0 = true ∧ monitorSettingsValid 32 15 1 = true ∧
      monitorSettingsValid 1 1 0 = false ∧ monitorSettingsValid 33 1 0 = false ∧
      monitorSettingsValid 2 0 0 = false ∧ monitorSettingsValid 2 16 0 = false ∧
      monitorSettingsValid 2 1 2 = false ∧ start.monitor.enable = decide ((1 : Byte).toNat = 1) ∧
      start.monitor.enable ≠ decide ((0 : Byte).toNat = 1) :=
  ⟨by decide, by decide, fun _ => rfl, nofun, by decide⟩

/-- Each kind of request waits at a monitor that is PROCESSING, with the block that asked. -/
theorem witness_StepPointTakesEveryRequest :
    (asked [.emptyList, .suspects] (busy .processing [] start)).monitor.waiting =
        .emptyList :: [.suspects] ∧
      (flashAt .none (.loading .begun) emptied).store.state = .loading ∧
      start.store.state ≠ .loading ∧
      (flashAt .none (.loading { LoadWork.begun with ended := some true }) emptied).store.work =
        .loading { LoadWork.begun with ended := some true } ∧
      LoadWork.begun.ended ≠ some true ∧ start.monitor.enable = true ∧
      (engineAt (job 0x28) .statusRead start).engine.hand = some (job 0x28) ∧
      (job 0x28).via = .unit := by decide

/-- R68, R81, R82, R84: the requests are taken in order; SUSPECTS after a clear finds none, and a SET_MONITOR that disables drops the report. -/
theorem test_stepPoint :
    (asked [.emptyList, .suspects] (engineAt (job 0x28) .statusRead
      (busy .processing [] (suspected 2)))).stepPoint.engine.answer = some ⟨.ok, [0]⟩ ∧
      (asked [.suspects, .emptyList] (engineAt (job 0x28) .statusRead
        (busy .processing [] (suspected 2)))).stepPoint.engine.answer =
          some ⟨.ok, [1, 3, 0, 0, 2, 0]⟩ ∧
      (asked [.setMonitor .unit 4 3 false] (busy .healing [] start)).stepPoint.monitor.state =
        .off := by decide

/-- The engine holds a command, or an answer, or neither. -/
def executing : State := engineAt (job 0x20) .statusRead filled

def answered : State := { start with engine := ⟨none, some ⟨.ok, []⟩, .none⟩ }

theorem witness_FirstByteIsAcknowledgedOrRefused :
    (0x59#7 ≠ 0x58#7 + start.pins.straps.setWidth 7 ∧ 0x59#7 ≠ 0x57#7 ∧
      0x58#7 = 0x58#7 + start.pins.straps.setWidth 7) ∧
      start.engine.hand = none ∧ executing.engine.hand ≠ none ∧
      answered.engine.write ≠ .unitAccepted ∧ answered.engine.answer ≠ none ∧
      (after (.requestAccept 0x58 0x20) answered).engine.write = .unitAccepted := by decide

/-- R175: the address byte of a write is acknowledged once, also when no data byte follows. -/
theorem test_addressIsAcknowledged :
    (after (.requestWrite 0x57 []) start).out.port = [.address true] ∧
      (after .describe start).out.port = [.address true, .acknowledged 2] ∧
      (after .describe (after (.requestAccept 0x58 1) start)).out.port = [.acknowledged 2] := by
  decide

theorem witness_WriteEnds :
    start.addressed 0x59 = none ∧ start.addressed 0x58 = some .unit ∧
      start.addressed 0x57 = some .group ∧ executing.refusesWrite .unit = true ∧
      start.refusesWrite .unit = false ∧ start.refusesWrite .group = false ∧
      parseRequest .unit [0x20] = .malformed ∧ parseRequest .unit [0xFF, 0] = .unknown ∧
      parseRequest .unit [0x01, 0] = .command .describe ∧
      parseRequest .group [0x30, 0] = .command (.save .group) ∧ takenByGroup 0x30 = true ∧
      takenByGroup 0x01 = false ∧ parseRequest .unit [0x01, 1, 0] = .malformed ∧
      parseRequest .unit (0x01 :: 25 :: List.replicate 25 0) = .malformed ∧
      parseRequest .unit (0xFF :: 24 :: List.replicate 24 0) = .unknown := by decide

theorem witness_ReadsAndAborts :
    start.addressed 0x57 ≠ some .unit ∧ start.addressed 0x58 = some .unit ∧
      answered.engine.answer = some ⟨.ok, []⟩ ∧ start.engine.answer = none ∧
      (engineAt (sweepJob (.stepping context) false) .statusRead filled).engine.hand =
        some (sweepJob (.stepping context) false) ∧
      executing.engine.hand = some (job 0x20) ∧ (job 0x20).sweep = none := by decide

/-- The engine can take a command at either address. -/
theorem witness_engineIdle :
    start.refusesWrite .unit = false ∧ start.refusesWrite .group = false := by decide

theorem witness_DescribeAnswersTheCapabilities : filled.refusesWrite .unit = false := by decide

theorem witness_EventsAreReadAndMasked :
    start.refusesWrite .unit = false ∧ (0x3FFF : Word16).toNat < 2 ^ 14 ∧
      2 ^ 14 ≤ (0x4000 : Word16).toNat := by decide

theorem witness_ServiceIsOpenedAndClosed :
    start.refusesWrite .unit = false ∧ start.pins.svcEn = false ∧
      (after (.svcEnChange true) start).pins.svcEn = true ∧ start.access.violation = none ∧
      (after .openService start).access.violation = some ⟨6, none, .operator, .notPermitted⟩ := by
  decide

theorem witness_SetDriveWritesBothSettings :
    start.refusesWrite .group = false ∧
      (255 ≤ (255 : Word16).toNat ∧ (4095 : Word16).toNat ≤ 4095 ∧ (5 : Byte).toNat ≤ 5) ∧
      ¬ 255 ≤ (254 : Word16).toNat ∧ ¬ (4096 : Word16).toNat ≤ 4095 ∧ ¬ (6 : Byte).toNat ≤ 5 := by
  decide

theorem witness_CommandAsksOrIsRefused :
    start.refusesWrite .unit = false ∧ start.refusesWrite .group = false ∧
      (127 : Byte).toNat ≤ 127 ∧ start.store.state = .idle ∧ 127 < (128 : Byte).toNat ∧
      (flashAt .none (.saving saved) start).store.state ≠ .idle ∧
      (flashAt .none (.saving saved) start).refusesWrite .unit = false := by decide

theorem witness_RefusedWriteLeavesNoTrace :
    executing.refusesWrite .unit = true ∧ executing.refusesWrite .group = true ∧
      executing.engine.hand ≠ none ∧ start.engine.hand = none ∧
      (after (.requestAccept 0x58 0xA5) start).engine.hand = none ∧
      (after (.requestAccept 0x58 0xA5) start).refusesWrite .unit = true := by decide

/-- Fields at the edges of R12 and R128, inside and outside. -/
theorem witness_SuppliedFieldsAreChecked :
    suppliedRecord (image 17 4) =
        some ⟨⟨17, 4⟩, .service, .active, ⟨.trim, 2047, false⟩, pass, ⟨.mute, 0, false⟩, 33⟩ ∧
      (suppliedRecord (image 0 0)).isSome = true ∧
      (suppliedRecord { image 0 0 with red := ⟨1, 2048⟩ }).isSome = false ∧
      (suppliedRecord { image 0 0 with blue := ⟨0x82, 0⟩ }).isSome = false ∧
      (amendFields 63 (image 0 0)).isSome = true ∧ (amendFields 64 (image 0 0)).isSome = false ∧
      (amendFields 0 (image 0 0)).isSome = false ∧
      sweepFields (sweepAll 2) = some (everything, .retire, 512) ∧
      (sweepFields (sweepAll 5)).isSome = false := by decide

theorem witness_TableInsertChecksAndJoins :
    (engineAt (job 0x20) (.insert (image 17 4)) filled).arbiter.engineOp =
        some (.insert (image 17 4)) ∧
      (engineAt (job 0x20) (.insert (image 17 4)) filled).engine.hand = some (job 0x20) ∧
      (job 0x20).via = .unit ∧
      (filled.table.insert .operator (image 17 4)).2 = .done ∧
      (filled.table.insert .operator (factoryImage 17 4)).2 = .refused .protected_ ∧
      (filled.table.insert .service (factoryImage 17 4)).2 = .done ∧
      (filled.table.insert .operator (image 0 0)).2 = .refused .exists_ ∧
      (filled.table.insert .operator (image 128 0)).2 = .refused .outOfRange ∧
      (holding.table.insert .operator (image 17 4)).2 = .refused .storeBusy := by decide

theorem witness_TableAmendWritesAndAdopts :
    (engineAt (job 0x21) (.amend 2 (image 0 0)) filled).arbiter.engineOp =
        some (.amend 2 (image 0 0)) ∧
      filled.table.state = .ready ∧ filled.table.saveHold = false ∧
      (amendFields 2 (image 0 0)).isSome = true ∧ filled.table.geometry.contains ⟨0, 0⟩ ∧
      filled.table.find ⟨0, 0⟩ = some found ∧ found.pers.origin ≠ .factory ∧
      (amendFields 2 (image 0 0)).map AmendFields.origin = some none ∧
      filled.table.find ⟨127, 255⟩ = some factory ∧ factory.pers.origin = .factory ∧
      amendFields 0 (image 0 0) = none ∧ holding.table.saveHold = true := by decide

theorem witness_RemoveChecksAndTakesOut :
    (engineAt (job 0x22) (.remove 0 0) filled).arbiter.engineOp = some (.remove 0 0) ∧
      filled.table.find ⟨(0 : Byte).toNat, (0 : Byte).toNat⟩ = some found ∧
      filled.table.find ⟨(127 : Byte).toNat, (255 : Byte).toNat⟩ = some factory ∧
      filled.arbiter.levelAtGrant = .operator ∧ found.pers.origin ≠ .factory ∧
      ¬ filled.table.geometry.contains ⟨(128 : Byte).toNat, (0 : Byte).toNat⟩ := by decide

theorem witness_LookupAndNextRead :
    (engineAt (job 0x23) (.find 0 0) filled).arbiter.engineOp = some (.find 0 0) ∧
      (engineAt (job 0x23) (.find 0 0) filled).arbiter.inProgress = some .engine ∧
      (engineAt (job 0x24) (.findFirst 0 1) filled).arbiter.engineOp = some (.findFirst 0 1) ∧
      (engineAt (job 0x24) (.findFirst 0 1) filled).engine.hand = some (job 0x24) := by decide

theorem witness_StatusReadAnswersFromOneMoment :
    (engineAt (job 0x02) .statusRead holding).arbiter.engineOp = some .statusRead ∧
      (engineAt (job 0x02) .statusRead holding).engine.hand = some (job 0x02) ∧
      (job 0x02).via = .unit ∧ (job 0x02).sweep = none := by decide

theorem witness_GeometryChangeNeedsAnEmptyTable :
    (engineAt (job 0x10) (.geometryChange ⟨1, 1⟩) start).arbiter.engineOp =
        some (.geometryChange ⟨1, 1⟩) ∧
      (start.table.state = .ready ∧ start.table.records = []) ∧ start.monitor.nothingOverdue ∧
      start.table.geometry ≠ ⟨1, 1⟩ ∧ ¬ filled.table.records = [] ∧
      start.monitor.atRest = true ∧ (busy .healing [] start).monitor.atRest = false :=
  ⟨by decide, by decide, fun _ => rfl, by decide⟩

theorem witness_ProtectionTestGuardsLoad :
    (engineAt (job 0x31) .protectionTest filled).arbiter.engineOp = some .protectionTest ∧
      (engineAt (job 0x31) .protectionTest filled).arbiter.levelAtGrant = .operator ∧
      ¬ (∀ r ∈ filled.table.records, r.pers.origin ≠ .factory) ∧
      (∀ r ∈ start.table.records, r.pers.origin ≠ .factory) := by decide

theorem witness_SweepStartChecks :
    (engineAt (sweepJob (.starting (sweepAll 2) .default) true) .statusRead filled).arbiter.engineOp
        = some .statusRead ∧
      (engineAt (sweepJob (.starting (sweepAll 2) .default) true) .statusRead filled).engine.hand =
        some ⟨0x25, .unit, some ⟨.starting (sweepAll 2) .default, true⟩⟩ ∧
      emptied.table.state = .loading ∧ filled.table.state = .ready ∧
      filled.store.state ≠ .loading ∧ filled.store.state = .idle ∧
      (sweepAll 2).action.toNat ∈ [0, 1, 2, 4] ∧
      (flashAt .none (.saving saved) filled).store.state ≠ .idle ∧
      ¬ (sweepAll 3).action.toNat ∈ [0, 1, 2, 4] ∧ sweepFields (sweepAll 5) = none ∧
      sweepFields (sweepAll 2) = some (everything, .retire, 512) ∧
      everything.lastRow < Geometry.default.rows ∧ everything.firstRow < Geometry.default.rows ∧
      ¬ everything.lastRow < (Geometry.mk 127 256).rows := by decide

/-- A SERVICE record that ACTIVATE does not change. -/
theorem witness_SweepStepActsOnOneRecord :
    filled.table.records.find? (fun r => ¬ r.pers.key.before ⟨everything.firstRow, 0⟩) =
        some found ∧
      filled.table.records.find? (fun r => Key.before ⟨0, 0⟩ r.pers.key) = some factory ∧
      filled.table.records.find? (fun r => Key.before ⟨127, 255⟩ r.pers.key) = none ∧
      found.pers.key.row ≤ everything.lastRow ∧ everything.accepts found.pers = true ∧
      everything.accepts factory.pers = true ∧ factory.pers.origin = .factory ∧
      { everything with detected := false }.accepts found.pers = false ∧
      (filled.table.sweepStep .operator none everything .activate 0).2 = .unchanged ⟨0, 0⟩ ∧
      (filled.table.sweepStep .operator (some ⟨0, 0⟩) everything .activate 0).2 =
        .skipped ⟨127, 255⟩ ∧
      (filled.table.sweepStep .service (some ⟨0, 0⟩) everything .activate 0).2 =
        .changed ⟨127, 255⟩ := by decide

theorem witness_SweepStepMovesTheContext :
    (engineAt (sweepJob (.stepping context) false) (.sweepStep none everything .retire 0)
        filled).arbiter.engineOp = some (.sweepStep none everything .retire 0) ∧
      (engineAt (sweepJob (.stepping context) true) (.sweepStep none everything .retire 0)
        filled).engine.hand = some ⟨0x25, .unit, some ⟨.stepping context, true⟩⟩ ∧
      (filled.table.sweepStep .operator none everything .retire 0).2 = .changed ⟨0, 0⟩ ∧
      context.changed + 1 = context.limit ∧
      (filled.table.sweepStep .operator (some ⟨127, 255⟩) everything .retire 0).2 = .endOfRange ∧
      (filled.table.sweepStep .operator none everything .activate 0).2 = .unchanged ⟨0, 0⟩ := by
  decide

theorem witness_SaveIsAcceptedAndFramed :
    (start.refusesWrite .unit = false ∧ start.store.state = .idle ∧ start.table.state = .ready) ∧
      ¬ (emptied.store.state = .idle ∧ emptied.table.state = .ready) ∧
      (storeAt .beginSave (.saving .begun) filled).arbiter.storeOp = some .beginSave ∧
      (storeAt .beginSave (.saving .begun) filled).store.work = .saving .begun ∧
      (storeAt .beginSave (.saving .begun) filled).store.due = none ∧
      (after (.save .unit) start).store.due = some .save ∧
      (after .protectionTest (after .load start)).store.due = some .load ∧
      (storeAt .endSave (.saving saved) holding).arbiter.storeOp = some .endSave := by decide

/-- A page with 15 slots, and one with 14. -/
theorem witness_SaveReadFillsPages :
    (storeAt (.saveRead none) (.saving saved) holding).arbiter.storeOp = some (.saveRead none) ∧
      saved.erased = 3 ∧ saved.header = some (header 2) ∧ saved.headerProgrammed = false ∧
      saved.recordsEnded = false ∧ saved.page.length < 256 ∧
      256 ≤ (List.replicate 240 (0 : Byte)).length + 16 ∧
      (List.replicate 224 (0 : Byte)).length + 16 < 256 ∧
      holding.table.records.find? (fun r => aheadOf none r.pers.key) = some found ∧
      holding.table.records.find? (fun r => aheadOf (some ⟨127, 255⟩) r.pers.key) = none := by
  refine ⟨rfl, rfl, rfl, rfl, rfl, by decide, ?_, ?_, by decide⟩ <;> rw [List.length_replicate]
  decide

theorem witness_LoadIsFramed :
    (storeAt .beginLoad (.loading .begun) filled).arbiter.storeOp = some .beginLoad ∧
      filled.monitor.nothingOverdue ∧ filled.monitor.atRest = true ∧
      (storeAt .beginLoad (.loading .begun) filled).store.due = none ∧
      (busy .processing [] filled).monitor.atRest = false ∧
      (storeAt (.endLoadSuccess 7) (.loading (loaded 0 0)) emptied).arbiter.storeOp =
        some (.endLoadSuccess 7) ∧
      (loaded 0 0).header = some (header 0) ∧ emptied.monitor.waiting = [] ∧
      (storeAt .endLoadFailure (.loading .begun) emptied).arbiter.storeOp =
        some .endLoadFailure :=
  ⟨by decide, fun _ => rfl, by decide⟩

theorem witness_ImageRecordsAreInserted :
    (storeAt (.loadGeometry ⟨1, 1⟩) (.loading (loaded 1 0)) emptied).arbiter.storeOp =
        some (.loadGeometry ⟨1, 1⟩) ∧
      (loaded 1 0).header = some (header 1) ∧ (loaded 1 0).slots < (header 1).count ∧
      (header 1).count ≤ (loaded 1 1).slots ∧ emptied.table.records = [] ∧
      (storeAt (.loadInsert found.pers) (.loading (loaded 1 0)) emptied).arbiter.storeOp =
        some (.loadInsert found.pers) ∧
      emptied.table.state = .loading ∧ emptied.table.find found.pers.key = none ∧
      emptied.table.records.length < 512 ∧ emptied.table.geometry.contains found.pers.key ∧
      ¬ (Geometry.mk 127 255).contains factory.pers.key := by decide

theorem witness_FlashTransactionsLeadOn :
    (1 : Byte).getLsbD 0 = true ∧ (0xFE : Byte).getLsbD 0 = false ∧
      (flashAt (.polling 400) (.loading .begun) start).store.flash = .polling 400 ∧
      (flashAt (.polling 400) (.loading .begun) start).store.work = .loading .begun ∧
      SaveWork.begun.erased < 3 ∧ 3 ≤ saved.erased ∧ saved.headerProgrammed = false ∧
      saved.recordsEnded = false ∧ saved.page = [] ∧ start.store.flash ≠ .polling 400 ∧
      (flashAt (.enabling (.erase 8192)) (.saving .begun) start).store.flash =
        .enabling (.erase 8192) ∧
      (flashAt (.running (.program 0 [])) (.saving saved) start).store.flash =
        .running (.program 0 []) ∧ start.store.flash = .none ∧ start.store.work = .idle := by decide

set_option maxRecDepth 4000 in
theorem witness_ImageBytesAreChecked :
    (flashAt (.reading 0 32) (.loading .begun) emptied).store.flash =
        .reading 0 (headerBytes (header 512) 0).length ∧
      LoadWork.begun.header = none ∧ headerOfBytes (headerBytes (header 512) 0) = some (header 512) ∧
      headerOfBytes (headerBytes (header 513) 0) = none ∧ (loaded 1 0).header ≠ none ∧
      slotRecord (slotBytes factory.pers) = some factory.pers ∧ slotRecord [] = none ∧
      (loaded 1 0).lastKey = none ∧
      slotRecord [0, 0, 3, 0, 0x82, 0, 0, 0, 0, 0, 0, 0, 0, 0, 0, 0] = some found.pers ∧
      slotRecord [0, 0, 3, 0, 0x82, 0, 0, 0, 0, 0, 0, 0, 0, 0, 0, 1] = none ∧
      slotRecord [0, 0, 2, 0, 0x82, 0, 0, 0, 0, 0, 0, 0, 0, 0, 0, 0] = none ∧
      slotRecord [0, 0, 3, 0, 0x02, 0, 0, 0, 0, 0, 0, 0, 0, 0, 0, 0] = none ∧
      slotRecord [0, 0, 2, 2, 0, 0, 0, 0, 0, 0, 0, 0, 0, 0, 0, 0] = none := by decide

theorem witness_ImageReadsBack :
    found.pers.valid = true ∧ factory.pers.valid = true ∧ factory.pers.key.row < 128 ∧
      factory.pers.key.col < 256 ∧ (header 512).count ≤ 512 ∧ 255 ≤ (header 512).driveMax ∧
      (header 512).debounce ≤ 32 ∧ (header 512).healProbes ≤ 15 := by decide

/-- A step from each state below runs a command. -/
theorem witness_TableStaysLawful :
    filled.table.lawful ∧
      step { filled with pending := [.frameStart] } = .next (after .frameStart filled) :=
  ⟨witness_tableLawful, rfl⟩

theorem witness_RecordsStayValid : RecordsValid filled :=
  ⟨by decide, nofun⟩

theorem witness_MonitorStaysLawful :
    (suspected 32).monitor.suspectsLawful ∧ (suspected 32).monitor.nothingOverdue :=
  ⟨by unfold Monitor.suspectsLawful; decide, fun _ => rfl⟩

theorem witness_SettingsStayInRange : filled.settingsLawful := by
  refine ⟨by unfold Geometry.lawful driveMaxLawful monitorSettingsLawful; decide,
    by unfold Geometry.lawful driveMaxLawful monitorSettingsLawful; decide, nofun, nofun, nofun,
    nofun, by decide, by decide⟩

/-- R20: with all four waiting the walker is granted; without it the store; then the monitor. -/
theorem test_grantOrder :
    ((⟨some (.find ⟨0, 0⟩), some .endSave, some (.find ⟨0, 1⟩), some .statusRead, none, .operator⟩ :
        Arbiter).granted .service).inProgress = some .walker ∧
      ((⟨none, some .endSave, some (.find ⟨0, 1⟩), some .statusRead, none, .operator⟩ :
        Arbiter).granted .service).inProgress = some .store ∧
      ((⟨none, none, some (.find ⟨0, 1⟩), some .statusRead, none, .operator⟩ :
        Arbiter).granted .service).inProgress = some .monitor ∧
      ((⟨none, none, none, some .statusRead, none, .operator⟩ : Arbiter).granted .service) =
        ⟨none, none, none, some .statusRead, some .engine, .service⟩ := by decide

/-- An operation is in progress while a command arrives that is none of the rows left out. -/
theorem witness_operationInProgress :
    executing.arbiter.inProgress ≠ none ∧
      exec .frameStart executing = .next (after .frameStart executing) := ⟨by decide, rfl⟩

theorem witness_AccessAndArbiterStayLawful :
    ({ start with access := ⟨.service, none, 0⟩, pins := ⟨true, false, 0⟩ } : State).accessLawful ∧
      executing.arbiter.lawful := by
  refine ⟨⟨fun _ => rfl, fun _ => rfl, by decide⟩, rfl⟩

theorem witness_SaveHoldFreezesTheTable :
    holding.table.lawful ∧ holding.table.saveHold = true ∧
      exec .faultUpdate (updating ⟨0, 0⟩ .green holding) =
        .next (after .faultUpdate (updating ⟨0, 0⟩ .green holding)) ∧
      (updating ⟨0, 0⟩ .green holding).store.due = none ∧
      (updating ⟨0, 0⟩ .green holding).arbiter.storeOp = none ∧
      (updating ⟨0, 0⟩ .green holding).arbiter.engineOp = none :=
  ⟨witness_tableLawful, rfl, rfl, rfl, rfl, rfl⟩

end Sys2Proof.Tests
end

section
/-! PROOFS. The fields of a record as its bytes give them (R12, R13, R113), and the laws of R7 and R8 under every table operation. -/
namespace Sys2Proof.Machine

/-! ## Fields read from bytes -/

/-- A record is read when each of its fields is, and it holds those fields. -/
theorem persistentOf_eq_some_iff {origin : Byte → Option Origin}
    {action : ActionImage → Option Action} {i : RecordImage} {p : Persistent} :
    persistentOf origin action i = some p ↔
      p.key = keyOf i.row i.col ∧ origin i.origin = some p.origin ∧
        statusOf i.status = some p.status ∧ action i.red = some p.red ∧
        action i.green = some p.green ∧ action i.blue = some p.blue ∧ p.tag = i.tag := by
  simp only [persistentOf, Option.pure_def, Option.bind_eq_bind, Option.bind_eq_some_iff,
    Option.some.injEq]
  constructor
  · rintro ⟨o, ho, st, hst, r, hr, g, hg, b, hb, rfl⟩
    exact ⟨rfl, ho, hst, hr, hg, hb, rfl⟩
  · rintro ⟨hkey, ho, hst, hr, hg, hb, htag⟩
    exact ⟨_, ho, _, hst, _, hr, _, hg, _, hb, by rw [← hkey, ← htag]⟩

/-- R12: a record is read exactly when each of its tested fields is. -/
theorem persistentOf_isSome_iff {origin : Byte → Option Origin}
    {action : ActionImage → Option Action} {i : RecordImage} :
    (persistentOf origin action i).isSome = true ↔
      (origin i.origin).isSome = true ∧ (statusOf i.status).isSome = true ∧
        ∀ a ∈ [i.red, i.green, i.blue], (action a).isSome = true := by
  simp only [Option.isSome_iff_exists, persistentOf_eq_some_iff, List.forall_mem_cons,
    List.not_mem_nil, false_imp_iff, implies_true, and_true]
  constructor
  · rintro ⟨p, -, ho, hst, hr, hg, hb, -⟩
    exact ⟨⟨_, ho⟩, ⟨_, hst⟩, ⟨_, hr⟩, ⟨_, hg⟩, ⟨_, hb⟩⟩
  · rintro ⟨⟨o, ho⟩, ⟨st, hst⟩, ⟨r, hr⟩, ⟨g, hg⟩, ⟨b, hb⟩⟩
    exact ⟨⟨_, o, st, r, g, b, _⟩, rfl, ho, hst, hr, hg, hb, rfl⟩

/-- R12 condition 5: an action read from its bytes has a value in range for its mode. -/
theorem admits_of_actionOf {i : ActionImage} {a : Action} (h : actionOf i = some a) :
    a.mode.admits a.value = true := by
  unfold actionOf at h
  split at h
  · cases h
  · split at h
    · obtain rfl := Option.some.inj h
      assumption
    · cases h

/-- R12 conditions 3 to 5: a supplied action is in range and carries no marker. -/
theorem supplied_of_suppliedAction {i : ActionImage} {a : Action}
    (h : suppliedAction i = some a) : a.mode.admits a.value = true ∧ a.auto = false := by
  obtain ⟨hread, hauto⟩ := Option.filter_eq_some_iff.mp h
  exact ⟨admits_of_actionOf hread, by simpa using hauto⟩

/-- R12 condition 1: a supplied origin is not DETECTED. -/
theorem ne_detected_of_suppliedOrigin {b : Byte} {o : Origin} (h : suppliedOrigin b = some o) :
    o ≠ .detected := by
  simpa using (Option.filter_eq_some_iff.mp h).2

/-! ## The laws of R7 and R8 -/

/-- R7, R8 in words: each action in range; a marker only on a MUTE action of a DETECTED record, and a DETECTED record with at least one. -/
theorem Persistent.valid_iff (p : Persistent) :
    p.valid = true ↔
      (∀ c, (p.action c).mode.admits (p.action c).value = true) ∧
      (∀ c, (p.action c).auto = true → (p.action c).mode = .mute ∧ p.origin = .detected) ∧
      (p.origin = .detected → ∃ c, (p.action c).auto = true) := by
  have hcolour : ∀ c : Colour, c ∈ colours := fun c => by cases c <;> decide
  simp only [Persistent.valid, Persistent.markersLawful, Bool.and_eq_true, Bool.or_eq_true,
    List.all_eq_true, List.any_eq_true, hcolour, true_and, forall_const, Bool.not_eq_true',
    beq_iff_eq, bne_iff_ne, ne_eq]
  refine and_congr_right fun _ => and_congr (forall_congr' fun c => ?_) ?_
  · cases (p.action c).auto <;> simp
  · tauto

/-- R8: without markers and not DETECTED, only the ranges of R7 are left to meet. -/
theorem Persistent.valid_of_unmarked {p : Persistent}
    (inRange : ∀ c, (p.action c).mode.admits (p.action c).value = true)
    (unmarked : ∀ c, (p.action c).auto = false) (ho : p.origin ≠ .detected) : p.valid = true :=
  p.valid_iff.mpr ⟨inRange, fun c h => by simp [unmarked c] at h, fun h => absurd h ho⟩

/-- R8: the laws read the actions and the origin, and nothing else. -/
theorem Persistent.valid_congr {p q : Persistent} (ha : q.action = p.action)
    (ho : q.origin = p.origin) : q.valid = p.valid := by
  unfold Persistent.valid Persistent.markersLawful
  rw [ha, ho]

/-- R8: a record that is not DETECTED has no marker. -/
theorem Persistent.unmarked_of_valid {p : Persistent} (h : p.valid = true)
    (ho : p.origin ≠ .detected) (c : Colour) : (p.action c).auto = false := by
  obtain ⟨-, marked, -⟩ := p.valid_iff.mp h
  exact Bool.eq_false_iff.mpr fun hauto => ho (marked c hauto).2

/-- R12: what INSERT may supply meets R7 and R8. -/
theorem valid_of_suppliedRecord {i : RecordImage} {p : Persistent}
    (h : suppliedRecord i = some p) : p.valid = true := by
  obtain ⟨-, ho, -, hr, hg, hb, -⟩ := persistentOf_eq_some_iff.mp h
  have supplied : ∀ c, (p.action c).mode.admits (p.action c).value = true ∧
      (p.action c).auto = false := fun c => by
    cases c
    · exact supplied_of_suppliedAction hr
    · exact supplied_of_suppliedAction hg
    · exact supplied_of_suppliedAction hb
  exact Persistent.valid_of_unmarked (fun c => (supplied c).1) (fun c => (supplied c).2)
    (ne_detected_of_suppliedOrigin ho)

/-- R13: what a slot of the image may carry meets R7 and R8. -/
theorem valid_of_imageRecord {i : RecordImage} {p : Persistent} (h : imageRecord i = some p) :
    p.valid = true := by
  obtain ⟨hread, hlaws⟩ := Option.filter_eq_some_iff.mp h
  obtain ⟨-, -, -, hr, hg, hb, -⟩ := persistentOf_eq_some_iff.mp hread
  have inRange : (colours.all fun c => (p.action c).mode.admits (p.action c).value) = true := by
    simp [colours, Persistent.action, admits_of_actionOf hr, admits_of_actionOf hg,
      admits_of_actionOf hb]
  rw [Persistent.valid, inRange, hlaws]; rfl

/-- R165: the record of a slot meets R7 and R8. -/
theorem valid_of_slotRecord {bytes : List Byte} {p : Persistent} (h : slotRecord bytes = some p) :
    p.valid = true := by
  unfold slotRecord at h
  split at h
  · obtain ⟨i, -, hi⟩ := Option.bind_eq_some_iff.mp h
    exact valid_of_imageRecord hi
  · cases h

/-- R26, R75: a colour darkened by the fault monitor in a DETECTED record with the others in order. -/
theorem Persistent.valid_withDarkened {p : Persistent} (c : Colour) (ho : p.origin = .detected)
    (inRange : ∀ c', (p.action c').mode.admits (p.action c').value = true)
    (marked : ∀ c', (p.action c').auto = true → (p.action c').mode = .mute) :
    (p.withAction c .darkened).valid = true := by
  have hact : ∀ c', (p.withAction c .darkened).action c' =
      if c' = c then .darkened else p.action c' := fun c' => by
    cases c <;> cases c' <;> rfl
  have horigin : (p.withAction c .darkened).origin = .detected := by cases c <;> exact ho
  refine (Persistent.valid_iff _).mpr ⟨fun c' => ?_, fun c' => ?_, fun _ => ⟨c, ?_⟩⟩
  · rw [hact]
    split
    · rfl
    · exact inRange c'
  · rw [hact]
    split
    · exact fun _ => ⟨rfl, horigin⟩
    · exact fun h => ⟨marked c' h, horigin⟩
  · rw [hact, if_pos rfl]; rfl

/-- R75: the record of a promotion meets R7 and R8. -/
theorem Persistent.valid_promoted (key : Key) (c : Colour) :
    (Persistent.promoted key c).valid = true :=
  Persistent.valid_withDarkened c rfl (fun c' => by cases c' <;> rfl)
    (fun c' h => by cases c' <;> cases h)

/-! ## AMEND (R113, R115 to R117) -/

/-- R113: a field's test is met exactly when it is not selected or its value passes. -/
theorem selectedField_eq_some_iff {α : Type} {select : Byte} {bit : Nat} {value x : Option α} :
    selectedField select bit value = some x ↔
      (select.getLsbD bit = true → value.isSome = true) ∧
        x = if select.getLsbD bit then value else none := by
  unfold selectedField
  cases select.getLsbD bit <;> cases value <;> simp [eq_comm]

/-- R113: what AMEND tests, and what it takes. -/
theorem amendFields_eq_some_iff {sel : Byte} {i : RecordImage} {a : AmendFields} :
    amendFields sel i = some a ↔
      (1 ≤ sel.toNat ∧ sel.toNat ≤ 63) ∧
      selectedField sel 0 (statusOf i.status) = some a.status ∧
      selectedField sel 1 (suppliedAction i.red) = some a.red ∧
      selectedField sel 2 (suppliedAction i.green) = some a.green ∧
      selectedField sel 3 (suppliedAction i.blue) = some a.blue ∧
      selectedField sel 4 (some i.tag) = some a.tag ∧
      selectedField sel 5 (suppliedOrigin i.origin) = some a.origin := by
  unfold amendFields
  split
  · simp only [reduceCtorEq, false_iff]
    omega
  · simp only [Option.pure_def, Option.bind_eq_bind, Option.bind_eq_some_iff, Option.some.injEq]
    constructor
    · rintro ⟨st, hst, r, hr, g, hg, b, hb, t, ht, o, ho, rfl⟩
      exact ⟨by omega, hst, hr, hg, hb, ht, ho⟩
    · rintro ⟨-, hst, hr, hg, hb, ht, ho⟩
      exact ⟨_, hst, _, hr, _, hg, _, hb, _, ht, _, ho, rfl⟩

/-- The new action that an AMEND selects for a colour. -/
def AmendFields.action (a : AmendFields) : Colour → Option Action
  | .red => a.red
  | .green => a.green
  | .blue => a.blue

theorem AmendFields.write_action (a : AmendFields) (p : Persistent) (c : Colour) :
    (a.write p).action c = (a.action c).getD (p.action c) := by
  cases c <;> rfl

/-- R113: an action that AMEND takes is a supplied one. -/
theorem supplied_of_amendFields {sel : Byte} {i : RecordImage} {a : AmendFields}
    (h : amendFields sel i = some a) {c : Colour} {x : Action} (hx : a.action c = some x) :
    x.mode.admits x.value = true ∧ x.auto = false := by
  obtain ⟨-, -, hr, hg, hb, -, -⟩ := amendFields_eq_some_iff.mp h
  have of_selected : ∀ (bit : Nat) (image : ActionImage),
      selectedField sel bit (suppliedAction image) = some (some x) →
      x.mode.admits x.value = true ∧ x.auto = false := fun bit image hs => by
    obtain ⟨-, hval⟩ := selectedField_eq_some_iff.mp hs
    split at hval
    · exact supplied_of_suppliedAction hval.symm
    · cases hval
  cases c
  · exact of_selected 1 i.red (hr.trans (congrArg some hx))
  · exact of_selected 2 i.green (hg.trans (congrArg some hx))
  · exact of_selected 3 i.blue (hb.trans (congrArg some hx))

/-- R113: an origin that AMEND takes is a supplied one. -/
theorem ne_detected_of_amendFields {sel : Byte} {i : RecordImage} {a : AmendFields}
    (h : amendFields sel i = some a) {o : Origin} (ho : a.origin = some o) : o ≠ .detected := by
  obtain ⟨-, -, -, -, -, -, hs⟩ := amendFields_eq_some_iff.mp h
  obtain ⟨-, hval⟩ := selectedField_eq_some_iff.mp hs
  split at hval
  · exact ne_detected_of_suppliedOrigin (hval.symm.trans ho)
  · simp [hval] at ho

/-- An AMEND that names no colour writes no action. -/
theorem AmendFields.action_of_not_namesColour {a : AmendFields} (h : ¬ a.namesColour = true)
    (c : Colour) : a.action c = none := by
  simp only [AmendFields.namesColour, Bool.or_eq_true, not_or, Option.not_isSome_iff_eq_none] at h
  obtain ⟨⟨hr, hg⟩, hb⟩ := h
  cases c
  · exact hr
  · exact hg
  · exact hb

theorem Persistent.clearMarkers_action (p : Persistent) (c : Colour) :
    p.clearMarkers.action c = { p.action c with auto := false } := by
  cases c <;> rfl

/-- R115 to R117: an AMEND leaves a valid record valid: adoption clears the markers, and without it either the record is not DETECTED or its actions and origin stay. -/
theorem AmendFields.valid_apply {sel : Byte} {i : RecordImage} {a : AmendFields} {p : Persistent}
    (h : amendFields sel i = some a) (hp : p.valid = true) : (a.apply p).valid = true := by
  obtain ⟨inRange, -, -⟩ := p.valid_iff.mp hp
  have written : ∀ c, ((a.write p).action c).mode.admits ((a.write p).action c).value = true := by
    intro c
    rw [AmendFields.write_action]
    cases hc : a.action c with
    | none => exact inRange c
    | some x => exact (supplied_of_amendFields h hc).1
  have origin_ne : ∀ d : Origin, d ≠ .detected → a.origin.getD d ≠ .detected := by
    intro d hd
    cases ho : a.origin with
    | none => exact hd
    | some o => exact ne_detected_of_amendFields h ho
  unfold AmendFields.apply
  split
  · refine Persistent.valid_of_unmarked (fun c => ?_) (fun c => ?_) (origin_ne _ (by decide))
    · have := (a.write p).clearMarkers_action c
      cases c <;> exact this ▸ written _
    · cases c <;> rfl
  · rename_i hadopt
    by_cases hd : p.origin = .detected
    · obtain ⟨hcolour, horigin⟩ := not_or.mp fun hn => hadopt ⟨hd, hn⟩
      rw [Persistent.valid_congr (p := p) _ _, hp]
      · funext c
        rw [AmendFields.write_action, AmendFields.action_of_not_namesColour hcolour]; rfl
      · show a.origin.getD p.origin = p.origin
        rw [Option.not_isSome_iff_eq_none.mp horigin]; rfl
    · refine Persistent.valid_of_unmarked written (fun c => ?_) (origin_ne _ hd)
      rw [AmendFields.write_action]
      cases hc : a.action c with
      | none => exact Persistent.unmarked_of_valid hp hd c
      | some x => exact (supplied_of_amendFields h hc).2

/-! ## The table operations -/

/-- R7, R8: every record of a table meets the laws. -/
def Table.recordsValid (t : Table) : Prop := ∀ r ∈ t.records, r.pers.valid = true

/-- What a search of the records gives is one of them. -/
theorem Table.valid_of_find {t : Table} {k : Key} {r : Record} (h : t.recordsValid)
    (hr : t.find k = some r) : r.pers.valid = true := h r (List.mem_of_find?_eq_some hr)

theorem Table.valid_of_walkerFind {t : Table} {k : Key} {r : Record} (h : t.recordsValid)
    (hr : t.walkerFind k = some r) : r.pers.valid = true := by
  unfold Table.walkerFind at hr
  split at hr
  · cases hr
  · exact Table.valid_of_find h hr

theorem Table.recordsValid_join {t : Table} {p : Persistent} (h : t.recordsValid)
    (hp : p.valid = true) : (t.join p).recordsValid := fun r hr => by
  rcases mem_insertSorted hr with rfl | hr
  · exact hp
  · exact h r hr

theorem Table.recordsValid_leave {t : Table} (k : Key) (h : t.recordsValid) :
    (t.leave k).recordsValid := fun r hr => h r (List.mem_of_mem_filter hr)

theorem Table.recordsValid_put {t : Table} {x : Record} (h : t.recordsValid)
    (hx : x.pers.valid = true) : (t.put x).recordsValid := fun r hr => by
  obtain ⟨y, hy, rfl⟩ := List.mem_map.mp hr
  split
  · exact hx
  · exact h y hy

theorem Table.recordsValid_insert {t : Table} (level : AccessLevel) (i : RecordImage)
    (h : t.recordsValid) : (t.insert level i).1.recordsValid := by
  unfold Table.insert
  split
  · exact h
  · split
    · exact h
    · rename_i p hp
      repeat' split
      all_goals first
        | exact h
        | exact Table.recordsValid_join h (valid_of_suppliedRecord hp)

theorem Table.recordsValid_amend {t : Table} (level : AccessLevel) (sel : Byte) (i : RecordImage)
    (h : t.recordsValid) : (t.amend level sel i).1.recordsValid := by
  unfold Table.amend
  split
  · exact h
  · split
    · exact h
    · rename_i a ha
      split
      · exact h
      · split
        · exact h
        · rename_i r hr
          repeat' split
          · exact h
          · exact h
          · exact Table.recordsValid_put h (AmendFields.valid_apply ha (Table.valid_of_find h hr))

theorem Table.recordsValid_remove {t : Table} (level : AccessLevel) (row col : Byte)
    (h : t.recordsValid) : (t.remove level row col).1.recordsValid := by
  unfold Table.remove
  repeat' split
  all_goals first
    | exact h
    | exact Table.recordsValid_leave _ h

theorem Table.recordsValid_countOn {t : Table} {r : Record} (c : Colour) (k : FaultKind)
    (f : FrameNo) (h : t.recordsValid) (hr : r.pers.valid = true) :
    (t.countOn r c k f).1.recordsValid := by
  have counted : (t.put (r.countFault c k f)).recordsValid := Table.recordsValid_put h hr
  unfold Table.countOn
  dsimp only
  split
  · exact counted
  · rename_i ho
    repeat' split
    · exact counted
    · exact counted
    · obtain ⟨inRange, marked, -⟩ := r.pers.valid_iff.mp hr
      exact Table.recordsValid_put h (Persistent.valid_withDarkened c (not_not.mp ho) inRange
        fun c' hc' => (marked c' hc').1)

theorem Table.recordsValid_faultUpdate {t : Table} (key : Key) (c : Colour) (k : FaultKind)
    (f : FrameNo) (h : t.recordsValid) : (t.faultUpdate key c k f).1.recordsValid := by
  unfold Table.faultUpdate
  split
  · exact h
  · split
    · exact h
    · rename_i r hr
      exact Table.recordsValid_countOn c k f h (Table.valid_of_find h hr)

theorem Table.recordsValid_promote {t : Table} (key : Key) (c : Colour) (k : FaultKind)
    (f : FrameNo) (h : t.recordsValid) : (t.promote key c k f).1.recordsValid := by
  unfold Table.promote
  split
  · exact h
  · split
    · exact h
    · split
      · rename_i r hr
        exact Table.recordsValid_countOn c k f h (Table.valid_of_find h hr)
      · repeat' split
        · exact h
        · exact h
        · exact Table.recordsValid_join h (Persistent.valid_promoted key c)

theorem Table.recordsValid_stamp {t : Table} (key : Key) (f : FrameNo) (cs : List Colour)
    (h : t.recordsValid) : (t.stamp key f cs).recordsValid := by
  unfold Table.stamp
  split
  · exact h
  · rename_i r hr
    split
    · have hvalid := Table.valid_of_walkerFind h hr
      exact Table.recordsValid_put h hvalid
    · exact h

/-- R28: the record a sweep step examines is one of the table. -/
theorem Table.valid_of_sweepCandidate {t : Table} {position : Option Key} {filter : SweepFilter}
    {r : Record} (h : t.recordsValid) (hr : t.sweepCandidate position filter = some r) :
    r.pers.valid = true := by
  unfold Table.sweepCandidate at hr
  dsimp only at hr
  have hfound := (Option.filter_eq_some_iff.mp hr).1
  split at hfound
  all_goals exact h r (List.mem_of_find?_eq_some hfound)

/-- R129: no sweep action touches an action or the origin. -/
theorem SweepAction.valid_apply {a : SweepAction} {value : Word16} {r r' : Record}
    (h : a.apply value r = some r') (hr : r.pers.valid = true) : r'.pers.valid = true := by
  suffices same : r'.pers.action = r.pers.action ∧ r'.pers.origin = r.pers.origin from
    (Persistent.valid_congr same.1 same.2).trans hr
  cases a with
  | retire => cases h
  | activate | makeDormant | clearFaults | retag =>
    cases h
    exact ⟨by funext c; cases c <;> rfl, rfl⟩

theorem Table.recordsValid_sweepStep {t : Table} (level : AccessLevel) (position : Option Key)
    (filter : SweepFilter) (action : SweepAction) (value : Word16) (h : t.recordsValid) :
    (t.sweepStep level position filter action value).1.recordsValid := by
  unfold Table.sweepStep
  split
  · exact h
  · rename_i r hr
    split
    · exact h
    · split
      · exact h
      · split
        · exact Table.recordsValid_leave _ h
        · rename_i r' hr'
          have hput : (t.put r').recordsValid := Table.recordsValid_put h
            (SweepAction.valid_apply hr' (Table.valid_of_sweepCandidate h hr))
          repeat' split
          · exact h
          · exact hput
          · exact hput

theorem Table.recordsValid_healStep {t : Table} (position : Option Key) (f : FrameNo) (n : Nat)
    (h : t.recordsValid) : (t.healStep position f n).1.recordsValid := by
  unfold Table.healStep
  split
  · exact h
  · split
    · exact h
    · rename_i r hr
      have hr : r.pers.valid = true := h r (List.mem_of_find?_eq_some hr)
      dsimp only
      repeat' split
      · exact Table.recordsValid_put h hr
      · exact Table.recordsValid_put h hr
      · exact Table.recordsValid_leave _ h

theorem Table.recordsValid_changeGeometry {t : Table} (g : Geometry) (h : t.recordsValid) :
    (t.changeGeometry g).1.recordsValid := by
  unfold Table.changeGeometry; split <;> exact h

theorem Table.recordsValid_loadGeometry {t : Table} (g : Geometry) (h : t.recordsValid) :
    (t.loadGeometry g).recordsValid := by
  unfold Table.loadGeometry; split <;> exact h

theorem Table.recordsValid_loadInsert {t : Table} {p : Persistent} (h : t.recordsValid)
    (hp : p.valid = true) : (t.loadInsert p).1.recordsValid := by
  unfold Table.loadInsert
  split
  · exact Table.recordsValid_join h hp
  · exact h

/-- R40: the operation that RESTART completes is one of the walker's or the monitor's. -/
theorem State.recordsValid_tableAtRestart {s : State} (h : s.table.recordsValid) :
    s.tableAtRestart.recordsValid := by
  unfold State.tableAtRestart
  split
  · split
    · exact Table.recordsValid_stamp _ _ _ h
    all_goals exact h
  · split
    · exact Table.recordsValid_faultUpdate _ _ _ _ h
    · exact Table.recordsValid_promote _ _ _ _ h
    · exact Table.recordsValid_healStep _ _ _ h
    all_goals exact h
  all_goals exact h

/-- An operation of the store in progress is the one it asked for. -/
theorem Arbiter.store_of_storeOp {a : Arbiter} {r : StoreReq} (h : a.storeOp = some r) :
    a.store = some r := by
  unfold Arbiter.storeOp at h
  split at h
  · exact h
  · cases h

/-- An operation of the engine in progress is the one it asked for. -/
theorem Arbiter.engine_of_engineOp {a : Arbiter} {r : EngineReq} (h : a.engineOp = some r) :
    a.engine = some r := by
  unfold Arbiter.engineOp at h
  split at h
  · exact h
  · cases h

/-- R7, R8: whatever a command does to the table, its records stay valid. -/
theorem recordsValid_of_tableChange {s : State} {c : Instr} {t : Table} (hs : RecordsValid s)
    (h : TableChange s c t) : t.recordsValid := by
  obtain ⟨records, inserts⟩ := hs
  cases h with
  | same => exact records
  | hardReset a => exact fun r hr => by cases hr
  | restarted _ _ _ => exact State.recordsValid_tableAtRestart records
  | insert i _ => exact Table.recordsValid_insert _ _ records
  | promote k c f n _ => exact Table.recordsValid_promote _ _ _ _ records
  | amend sel i _ => exact Table.recordsValid_amend _ _ _ records
  | remove row col _ => exact Table.recordsValid_remove _ _ _ records
  | fault k c f n _ => exact Table.recordsValid_faultUpdate _ _ _ _ records
  | stamp k n cs _ => exact Table.recordsValid_stamp _ _ _ records
  | sweep p f a v _ => exact Table.recordsValid_sweepStep _ _ _ _ _ records
  | heal p f n _ => exact Table.recordsValid_healStep _ _ _ records
  | geometry g _ => exact Table.recordsValid_changeGeometry _ records
  | beginSave _ => exact records
  | endSave _ => exact records
  | beginLoad _ => exact fun r hr => by cases hr
  | loadGeometry g _ => exact Table.recordsValid_loadGeometry _ records
  | loadInsert p hop =>
    exact Table.recordsValid_loadInsert records (inserts p (Arbiter.store_of_storeOp hop))
  | endLoadSuccess g _ => exact records
  | endLoadFailure _ => exact fun r hr => by cases hr

end Sys2Proof.Machine
end

section
/-! PROOFS. The laws that every command keeps: the settings of R2, R42 and R65 in range, the record of a load about to be inserted valid (R13), and the frame latches written only where a frame begins (R45). Each operation is walked through once. -/
namespace Sys2Proof.Machine

/-! ## The laws, block by block -/

/-- R42, R45: what the walker holds is in range. -/
def Walker.settingsLawful (w : Walker) : Prop :=
  driveMaxLawful w.driveMax ∧ (w.latches.geometry.lawful ∧ driveMaxLawful w.latches.driveMax) ∧
    w.running ≤ Config.greatestAppliedCount ∧ w.appliedCount ≤ Config.greatestAppliedCount

/-- R65, R68, R70: what the monitor holds is in range. -/
def Monitor.settingsLawful (m : Monitor) : Prop :=
  monitorSettingsLawful m.debounce m.healProbes ∧
    monitorSettingsLawful m.latchedDebounce m.latchedHealProbes ∧ ∀ a ∈ m.waiting, a.lawful

/-- R164: an accepted header is in range. -/
def StoreWork.headerLawful (w : StoreWork) : Prop :=
  ∀ l h, w = .loading l → l.header = some h → h.lawful

/-- R3: what a request of the engine carries is in range. -/
def EngineReq.lawful : EngineReq → Prop
  | .geometryChange g => g.lawful
  | .find _ _ | .findFirst _ _ | .insert _ | .amend _ _ | .remove _ _ | .sweepStep _ _ _ _
  | .statusRead | .protectionTest => True

/-- R13, R164: what a request of the store carries is in range. -/
def StoreReq.lawful : StoreReq → Prop
  | .loadGeometry g => g.lawful
  | .loadInsert p => p.valid = true
  | .beginSave | .saveRead _ | .endSave | .beginLoad | .endLoadSuccess _ | .endLoadFailure => True

/-- `State.settingsLawful` with its parts named. -/
structure SettingsLaws (s : State) : Prop where
  geometry : s.table.geometry.lawful
  walker : s.walker.settingsLawful
  monitor : s.monitor.settingsLawful
  engineAsk : ∀ g, s.arbiter.engine = some (.geometryChange g) → g.lawful
  storeAsk : ∀ g, s.arbiter.store = some (.loadGeometry g) → g.lawful
  header : s.store.work.headerLawful

theorem settingsLawful_iff (s : State) : s.settingsLawful ↔ SettingsLaws s := by
  constructor
  · rintro ⟨⟨geometry, drive, monitor⟩, ⟨latchedGeometry, latchedDrive, latchedMonitor⟩, engineAsk,
      storeAsk, header, waiting, running, applied⟩
    exact ⟨geometry, ⟨drive, ⟨latchedGeometry, latchedDrive⟩, running, applied⟩,
      ⟨monitor, latchedMonitor, waiting⟩, engineAsk, storeAsk, header⟩
  · rintro ⟨geometry, ⟨drive, ⟨latchedGeometry, latchedDrive⟩, running, applied⟩,
      ⟨monitor, latchedMonitor, waiting⟩, engineAsk, storeAsk, header⟩
    exact ⟨⟨geometry, drive, monitor⟩, ⟨latchedGeometry, latchedDrive, latchedMonitor⟩, engineAsk,
      storeAsk, header, waiting, running, applied⟩

/-- R13: the record that a load is about to insert is valid. -/
def Arbiter.insertValid (a : Arbiter) : Prop :=
  ∀ p, a.store = some (.loadInsert p) → p.valid = true

theorem StoreWork.headerLawful_idle : StoreWork.idle.headerLawful :=
  fun _ _ hw => StoreWork.noConfusion hw

theorem StoreWork.headerLawful_saving (w : SaveWork) : (StoreWork.saving w).headerLawful :=
  fun _ _ hw => StoreWork.noConfusion hw

/-- With nothing asked for, nothing is about to be inserted. -/
theorem Arbiter.insertValid_empty : Arbiter.empty.insertValid := fun _ hp => by cases hp

/-- What every operation that begins no frame does to the laws and to the frame in hand. -/
structure KeepsLaws (s t : State) : Prop where
  inserts : s.arbiter.insertValid → t.arbiter.insertValid
  settings : SettingsLaws s → SettingsLaws t
  latches : t.walker.latches = s.walker.latches
  frameNumber : t.walker.frameNumber = s.walker.frameNumber

theorem KeepsLaws.refl (s : State) : KeepsLaws s s := ⟨id, id, rfl, rfl⟩

theorem KeepsLaws.trans {s t u : State} (h : KeepsLaws s t) (h' : KeepsLaws t u) : KeepsLaws s u :=
  ⟨h'.inserts ∘ h.inserts, h'.settings ∘ h.settings, h'.latches.trans h.latches,
    h'.frameNumber.trans h.frameNumber⟩

/-! ## The named updates -/

/-- What leaves the settings and the requests of the store and the engine keeps the laws. -/
theorem KeepsLaws.of_same {s t : State} (geometry : t.table.geometry = s.table.geometry)
    (walker : t.walker = s.walker) (monitor : t.monitor = s.monitor)
    (engineAsk : t.arbiter.engine = s.arbiter.engine)
    (storeAsk : t.arbiter.store = s.arbiter.store) (work : t.store.work = s.store.work) :
    KeepsLaws s t where
  inserts h := by unfold Arbiter.insertValid; rw [storeAsk]; exact h
  settings h := ⟨geometry ▸ h.geometry, walker ▸ h.walker, monitor ▸ h.monitor,
    engineAsk ▸ h.engineAsk, storeAsk ▸ h.storeAsk, work ▸ h.header⟩
  latches := by rw [walker]
  frameNumber := by rw [walker]

theorem keepsLaws_quiet (s : State) : KeepsLaws s s.quiet := .of_same rfl rfl rfl rfl rfl rfl

theorem keepsLaws_withEngine (s : State) (x : Engine) : KeepsLaws s (s.withEngine x) :=
  .of_same rfl rfl rfl rfl rfl rfl

theorem keepsLaws_withAccess (s : State) (x : Access) : KeepsLaws s (s.withAccess x) :=
  .of_same rfl rfl rfl rfl rfl rfl

theorem keepsLaws_withEvents (s : State) (x : Events) : KeepsLaws s (s.withEvents x) :=
  .of_same rfl rfl rfl rfl rfl rfl

theorem keepsLaws_withOut (s : State) (x : Outputs) : KeepsLaws s (s.withOut x) :=
  .of_same rfl rfl rfl rfl rfl rfl

theorem keepsLaws_setFlash (s : State) (op : FlashOp) : KeepsLaws s (s.setFlash op) :=
  .of_same rfl rfl rfl rfl rfl rfl

theorem keepsLaws_raise (s : State) (e : Event) : KeepsLaws s (s.raise e) :=
  keepsLaws_withEvents s _

theorem keepsLaws_drive (s : State) (items : List DriveItem) : KeepsLaws s (s.drive items) :=
  keepsLaws_withOut s _

theorem keepsLaws_bus (s : State) (items : List PortItem) : KeepsLaws s (s.bus items) :=
  keepsLaws_withOut s _

/-- By default the monitor's settings and its waiting requests are untouched. -/
theorem keepsLaws_withMonitor {s : State} (m : Monitor)
    (h : SettingsLaws s → m.settingsLawful := by exact fun h => h.monitor) :
    KeepsLaws s (s.withMonitor m) :=
  ⟨id, fun hs => { hs with monitor := h hs }, rfl, rfl⟩

/-- By default the walker's settings and counts are untouched. -/
theorem keepsLaws_withWalker {s : State} (w : Walker)
    (h : SettingsLaws s → w.settingsLawful := by exact fun h => h.walker)
    (hl : w.latches = s.walker.latches := by rfl)
    (hf : w.frameNumber = s.walker.frameNumber := by rfl) : KeepsLaws s (s.withWalker w) :=
  ⟨id, fun hs => { hs with walker := h hs }, hl, hf⟩

/-- By default the sequencing, which holds the header, is untouched. -/
theorem keepsLaws_withStore {s : State} (x : Store)
    (h : SettingsLaws s → x.work.headerLawful := by exact fun h => h.header) :
    KeepsLaws s (s.withStore x) :=
  ⟨id, fun hs => { hs with header := h hs }, rfl, rfl⟩

theorem keepsLaws_respond (s : State) (via : Via) (c : ResultCode) (d : List Byte) :
    KeepsLaws s (s.respond via c d) := keepsLaws_withEngine s _

theorem keepsLaws_respondHand (s : State) (c : ResultCode) (d : List Byte) :
    KeepsLaws s (s.respondHand c d) := by
  unfold State.respondHand; split
  · exact .refl s
  · exact keepsLaws_respond s _ _ _

theorem keepsLaws_askWalker (s : State) (r : WalkerReq) : KeepsLaws s (s.askWalker r) :=
  .of_same rfl rfl rfl (by simp [State.askWalker_eq]) (by simp [State.askWalker_eq]) rfl

theorem keepsLaws_askMonitor (s : State) (r : MonitorReq) : KeepsLaws s (s.askMonitor r) :=
  .of_same rfl rfl rfl (by simp [State.askMonitor_eq]) (by simp [State.askMonitor_eq]) rfl

/-- Most requests carry nothing that has a range. -/
theorem keepsLaws_askStore (s : State) {r : StoreReq} (h : r.lawful := by exact trivial) :
    KeepsLaws s (s.askStore r) where
  inserts _ p hp := by
    simp only [State.askStore_eq, State.withArbiter_arbiter, Arbiter.granted_store,
      Option.some.injEq] at hp
    exact (hp ▸ h : StoreReq.lawful (.loadInsert p))
  settings hs := { hs with
    engineAsk := by simpa [State.askStore_eq] using hs.engineAsk
    storeAsk := fun g hg => by
      simp only [State.askStore_eq, State.withArbiter_arbiter, Arbiter.granted_store,
        Option.some.injEq] at hg
      exact (hg ▸ h : StoreReq.lawful (.loadGeometry g)) }
  latches := rfl
  frameNumber := rfl

theorem keepsLaws_askEngine (s : State) {r : EngineReq} (h : r.lawful := by exact trivial) :
    KeepsLaws s (s.askEngine r) where
  inserts hs := by simpa [Arbiter.insertValid, State.askEngine_eq] using hs
  settings hs := { hs with
    engineAsk := fun g hg => by
      simp only [State.askEngine_eq, State.withArbiter_arbiter, Arbiter.granted_engine,
        Option.some.injEq] at hg
      exact (hg ▸ h : EngineReq.lawful (.geometryChange g))
    storeAsk := by simpa [State.askEngine_eq] using hs.storeAsk }
  latches := rfl
  frameNumber := rfl

/-- A completed operation takes its own request away and no other's. -/
theorem Arbiter.store_of_released {a : Arbiter} {c : Client} {r : StoreReq}
    (h : (a.released c).store = some r) : a.store = some r := by
  cases c <;> first | exact h | cases h

theorem Arbiter.engine_of_released {a : Arbiter} {c : Client} {r : EngineReq}
    (h : (a.released c).engine = some r) : a.engine = some r := by
  cases c <;> first | exact h | cases h

theorem keepsLaws_complete {s : State} (c : Client) {t : Table}
    (h : SettingsLaws s → t.geometry.lawful) : KeepsLaws s (s.complete c t) where
  inserts hs p hp := hs p (Arbiter.store_of_released (by simpa using hp))
  settings hs := { hs with
    geometry := h hs
    engineAsk := fun g hg => hs.engineAsk g (Arbiter.engine_of_released (by simpa using hg))
    storeAsk := fun g hg => hs.storeAsk g (Arbiter.store_of_released (by simpa using hg)) }
  latches := rfl
  frameNumber := rfl

/-! ## The fault monitor -/

theorem keepsLaws_afterLoadStart (s : State) : KeepsLaws s s.afterLoadStart := by
  unfold State.afterLoadStart; split
  · exact (keepsLaws_setFlash s _).trans (keepsLaws_withOut _ _)
  all_goals exact .refl s

theorem keepsLaws_afterLoadEnd (s : State) : KeepsLaws s s.afterLoadEnd := by
  unfold State.afterLoadEnd; split
  · split
    all_goals
      refine (keepsLaws_withStore _ fun _ => ?_).trans (keepsLaws_raise _ _)
      exact StoreWork.headerLawful_idle
  all_goals exact .refl s

/-- R80: SET_MONITOR writes the settings it carries and drops none of the laws. -/
theorem Monitor.settingsLawful_takeSettings {m : Monitor} {d h : Nat} (e : Bool)
    (hm : m.settingsLawful) (hd : monitorSettingsLawful d h) :
    (m.takeSettings d h e).settingsLawful := by
  obtain ⟨-, latched, waiting⟩ := hm
  unfold Monitor.takeSettings
  dsimp only
  split <;> exact ⟨hd, latched, waiting⟩

/-- R68: a request taken writes only the settings that it carries. -/
theorem keepsLaws_takeAsk (s : State) {a : MonitorAsk} (ha : a.lawful) :
    KeepsLaws s (s.takeAsk a) := by
  cases a with
  | emptyList => exact keepsLaws_withMonitor _
  | loadStart =>
    exact (keepsLaws_withMonitor _).trans (keepsLaws_afterLoadStart _)
  | loadEnd d n e =>
    exact (keepsLaws_withMonitor _ (by exact fun h => ⟨ha, h.monitor.2⟩)).trans
      (keepsLaws_afterLoadEnd _)
  | setMonitor via d n e =>
    exact (keepsLaws_withMonitor _ fun h =>
      Monitor.settingsLawful_takeSettings e h.monitor ha).trans (keepsLaws_respond _ _ _ _)
  | suspects => exact keepsLaws_respondHand s _ _
  | clearSuspects =>
    exact (keepsLaws_withMonitor _).trans (keepsLaws_respondHand _ _ _)

theorem keepsLaws_takeAsks (l : List MonitorAsk) :
    ∀ s : State, (∀ a ∈ l, a.lawful) → KeepsLaws s (l.foldl State.takeAsk s) := by
  induction l with
  | nil => exact fun s _ => .refl s
  | cons a l ih =>
    intro s hl
    obtain ⟨ha, hl⟩ := List.forall_mem_cons.mp hl
    exact (keepsLaws_takeAsk s ha).trans (ih _ hl)

/-- R68: at a step point the waiting requests are taken; what they do not touch does not ask whether they are in range. -/
theorem keepsLaws_stepPoint (s : State) : KeepsLaws s s.stepPoint where
  inserts hs := by
    unfold Arbiter.insertValid
    rw [(inMonitor_stepPoint s).askedByStore]
    exact hs
  settings hs := by
    obtain ⟨settings, latched, waiting⟩ := hs.monitor
    have emptied : SettingsLaws (s.withMonitor { s.monitor with waiting := [] }) :=
      { hs with monitor := ⟨settings, latched, nofun⟩ }
    exact (keepsLaws_takeAsks s.monitor.waiting _ waiting).settings emptied
  latches := by rw [(inMonitor_stepPoint s).walker]
  frameNumber := by rw [(inMonitor_stepPoint s).walker]

/-- A change of the monitor that keeps its settings, followed by a step point. -/
theorem keepsLaws_settled {s : State} (m : Monitor)
    (h : SettingsLaws s → m.settingsLawful := by exact fun h => h.monitor) :
    KeepsLaws s (s.withMonitor m).stepPoint :=
  (keepsLaws_withMonitor m h).trans (keepsLaws_stepPoint _)

theorem keepsLaws_askOfMonitor {s : State} {a : MonitorAsk}
    (ha : SettingsLaws s → a.lawful := by exact fun _ => trivial) :
    KeepsLaws s (s.askOfMonitor a) := by
  have posted : SettingsLaws s →
      { s.monitor with waiting := s.monitor.waiting ++ [a] }.settingsLawful := fun h => by
    obtain ⟨settings, latched, waiting⟩ := h.monitor
    exact ⟨settings, latched, fun x hx => by
      rcases List.mem_append.mp hx with hx | hx
      · exact waiting x hx
      · exact List.mem_singleton.mp hx ▸ ha h⟩
  unfold State.askOfMonitor
  dsimp only
  split
  · exact keepsLaws_settled _ posted
  · exact keepsLaws_withMonitor _ posted

theorem keepsLaws_monitorIdle (s : State) : KeepsLaws s s.monitorIdle :=
  keepsLaws_settled _

theorem keepsLaws_abandonReport (s : State) : KeepsLaws s s.abandonReport :=
  keepsLaws_settled _

section
variable {onEnd : State → State} (hEnd : ∀ s, KeepsLaws s (onEnd s))
include hEnd

theorem keepsLaws_finishEntries (s : State) : KeepsLaws s (s.finishEntries onEnd) := by
  unfold State.finishEntries
  split
  · exact .refl s
  · rename_i r _
    dsimp only
    generalize hdone : (s.withMonitor { s.monitor with
      suspects := if r.truncated then s.monitor.suspects
        else s.monitor.suspects.filter fun e => e.lastFrame = r.frame }).stepPoint = done
    have kept : KeepsLaws s done := hdone ▸ keepsLaws_settled _
    split
    · exact kept
    · split
      · exact kept.trans (hEnd _)
      · exact kept.trans ((keepsLaws_withMonitor _).trans (keepsLaws_askMonitor _ _))

theorem keepsLaws_handleEntries (es : List ReportEntry) :
    ∀ (before : Option ReportEntry) (s : State), KeepsLaws s (s.handleEntries onEnd before es) := by
  induction es with
  | nil =>
    intro before s
    rw [State.handleEntries]
    exact keepsLaws_finishEntries hEnd s
  | cons e es ih =>
    intro before s
    unfold State.handleEntries
    split
    · exact .refl s
    · exact keepsLaws_askMonitor s _
    · dsimp only
      have passed : KeepsLaws s (s.withMonitor
          { s.monitor with entryPosition := s.monitor.entryPosition + 1 }).stepPoint :=
        keepsLaws_settled _
      split
      · exact passed
      · exact passed.trans (ih _ _)

theorem keepsLaws_continueEntries (s : State) : KeepsLaws s (s.continueEntries onEnd) := by
  unfold State.continueEntries
  split
  · exact .refl s
  · exact keepsLaws_handleEntries hEnd _ _ _

theorem keepsLaws_checkSuspects (s : State) : KeepsLaws s (s.checkSuspects onEnd) := by
  unfold State.checkSuspects
  split
  · exact keepsLaws_askMonitor s _
  · exact keepsLaws_continueEntries hEnd s

/-- R70: the latched settings are those in force. -/
theorem keepsLaws_takeReport (r : Report) (s : State) : KeepsLaws s (s.takeReport onEnd r) := by
  unfold State.takeReport
  dsimp only
  have taken : SettingsLaws s → { s.monitor with
      state := .processing, inHand := some r, latchedDebounce := s.monitor.debounce
      latchedHealProbes := s.monitor.healProbes, entryPosition := 0, checkPosition := 0
      healPosition := none }.settingsLawful := fun h => by
    obtain ⟨settings, -, waiting⟩ := h.monitor
    exact ⟨settings, settings, waiting⟩
  split
  · exact keepsLaws_settled _ taken
  · exact (keepsLaws_settled _ taken).trans (keepsLaws_checkSuspects hEnd _)

end

theorem keepsLaws_endReport (s : State) : KeepsLaws s s.endReport := by
  unfold State.endReport
  split
  · exact keepsLaws_monitorIdle s
  · exact (keepsLaws_withMonitor _).trans
      (keepsLaws_takeReport keepsLaws_monitorIdle _ _)

theorem keepsLaws_entryHandled (s : State) : KeepsLaws s s.entryHandled := by
  unfold State.entryHandled
  dsimp only
  have handled : KeepsLaws s (s.withMonitor
      { s.monitor with entryPosition := s.monitor.entryPosition + 1 }).stepPoint :=
    keepsLaws_settled _
  split
  · exact handled
  · exact handled.trans (keepsLaws_continueEntries keepsLaws_endReport _)

theorem keepsLaws_reportArrives (s : State) (r : Report) : KeepsLaws s (s.reportArrives r) := by
  unfold State.reportArrives
  split
  · exact .refl s
  · split
    · exact .refl s
    · exact keepsLaws_takeReport keepsLaws_endReport _ _
  all_goals
    split
    · exact keepsLaws_raise s _
    · exact keepsLaws_withMonitor _

theorem keepsLaws_setSuspects (s : State) (l : List Suspect) : KeepsLaws s (s.setSuspects l) :=
  keepsLaws_withMonitor _

theorem keepsLaws_suspectNamed (s : State) (key : Key) (c : Colour) (k : FaultKind)
    (f : FrameNo) : KeepsLaws s (s.suspectNamed key c k f) := by
  unfold State.suspectNamed
  split
  · split
    · exact (keepsLaws_setSuspects s _).trans (keepsLaws_askMonitor _ _)
    · exact (keepsLaws_setSuspects s _).trans (keepsLaws_entryHandled _)
  · split
    · exact (keepsLaws_raise s _).trans (keepsLaws_entryHandled _)
    · exact (keepsLaws_setSuspects s _).trans (keepsLaws_entryHandled _)

theorem keepsLaws_faultUpdated (s : State) (key : Key) (c : Colour) (k : FaultKind) (f : FrameNo)
    (o : UpdateOutcome) : KeepsLaws s (s.faultUpdated key c k f o) := by
  cases o with
  | loading => exact keepsLaws_abandonReport s
  | none => exact keepsLaws_suspectNamed s _ _ _ _
  | extended | notDetected => exact (keepsLaws_withEvents s _).trans (keepsLaws_entryHandled _)
  | extensionSkipped | updated => exact keepsLaws_entryHandled s

theorem keepsLaws_promotionAnswered (s : State) (key : Key) (c : Colour) (o : PromotionOutcome) :
    KeepsLaws s (s.promotionAnswered key c o) := by
  have filed : KeepsLaws s (s.filed key c) := keepsLaws_setSuspects s _
  have held : KeepsLaws s (s.holdSuspect key c) := keepsLaws_setSuspects s _
  have told : ∀ e : Events, KeepsLaws s ((s.filed key c).withEvents e).entryHandled :=
    fun e => (filed.trans (keepsLaws_withEvents _ e)).trans (keepsLaws_entryHandled _)
  cases o with
  | loading => exact keepsLaws_abandonReport s
  | outside => exact filed.trans (keepsLaws_entryHandled _)
  | inserted => exact told _
  | merged u =>
    cases u with
    | extended | notDetected => exact told _
    | updated | extensionSkipped | none | loading => exact filed.trans (keepsLaws_entryHandled _)
  | heldBySave => exact held.trans (keepsLaws_entryHandled _)
  | full =>
    simp only [State.promotionAnswered]
    split
    · exact (held.trans (keepsLaws_raise _ _)).trans (keepsLaws_entryHandled _)
    · exact held.trans (keepsLaws_entryHandled _)

theorem keepsLaws_suspectChecked (s : State) (o : FindOutcome) :
    KeepsLaws s (s.suspectChecked o) := by
  cases o with
  | loading => exact keepsLaws_abandonReport s
  | found r =>
    exact (keepsLaws_setSuspects s _).trans (keepsLaws_checkSuspects keepsLaws_endReport _)
  | none =>
    exact (keepsLaws_withMonitor _).trans
      (keepsLaws_checkSuspects keepsLaws_endReport _)

theorem keepsLaws_nextHealStep (s : State) (k : Key) : KeepsLaws s (s.nextHealStep k) := by
  unfold State.nextHealStep
  dsimp only
  have moved : KeepsLaws s (s.withMonitor { s.monitor with healPosition := some k }).stepPoint :=
    keepsLaws_settled _
  split
  · exact moved
  · exact moved.trans (keepsLaws_askMonitor _ _)

theorem keepsLaws_healStepped (s : State) (o : HealOutcome) : KeepsLaws s (s.healStepped o) := by
  cases o with
  | loading => exact keepsLaws_abandonReport s
  | endOfPass => exact keepsLaws_endReport s
  | counted k | deferred k => exact keepsLaws_nextHealStep s k
  | healed k => exact (keepsLaws_withEvents s _).trans (keepsLaws_nextHealStep _ k)

/-! ## The raster walker, within a frame -/

theorem keepsLaws_startBlank (s : State) : KeepsLaws s s.startBlank :=
  (keepsLaws_withWalker _).trans (keepsLaws_drive _ _)

theorem keepsLaws_driveNext (s : State) : KeepsLaws s s.driveNext := by
  unfold State.driveNext; split
  · exact keepsLaws_askWalker s _
  · exact .refl s

theorem keepsLaws_levelArrives (s : State) (l : Level) : KeepsLaws s (s.levelArrives l) := by
  unfold State.levelArrives; repeat' split
  · exact .refl s
  · exact keepsLaws_withWalker _
  · exact (keepsLaws_withWalker _).trans (keepsLaws_driveNext _)
  · exact .refl s

theorem keepsLaws_levels (l : List Level) :
    ∀ s : State, KeepsLaws s (l.foldl State.levelArrives s) := by
  induction l with
  | nil => exact fun s => .refl s
  | cons a l ih => exact fun s => (keepsLaws_levelArrives s a).trans (ih _)

theorem keepsLaws_loseVideo (s : State) : KeepsLaws s s.loseVideo := by
  have lost : KeepsLaws s (s.withWalker { s.walker with
      state := .blank, running := 0, timer := .stopped, levels := [], arrived := 0
      heldExpiry := false, ending := none }) := keepsLaws_withWalker _ fun h => by
    obtain ⟨drive, latched, -, applied⟩ := h.walker
    exact ⟨drive, latched, Nat.zero_le _, applied⟩
  exact ((lost.trans (keepsLaws_startBlank _)).trans (keepsLaws_raise _ _)).trans
    keepsLaws_askOfMonitor

/-- R52: the running count becomes the applied count. -/
theorem keepsLaws_completeFrame (s : State) : KeepsLaws s s.completeFrame := by
  have done : KeepsLaws s ((s.withWalker { s.walker with
      state := .waiting, lastCompleted := some s.walker.frameNumber
      appliedCount := s.walker.running, levels := [] }).drive
        [.latch s.walker.frameNumber true]) := by
    refine (keepsLaws_withWalker _ fun h => ?_).trans (keepsLaws_drive _ _)
    obtain ⟨drive, latched, running, -⟩ := h.walker
    exact ⟨drive, latched, running, running⟩
  unfold State.completeFrame
  dsimp only
  split
  · exact done.trans (keepsLaws_loseVideo _)
  · exact done

theorem keepsLaws_emitterDriven (s : State) : KeepsLaws s s.emitterDriven := by
  unfold State.emitterDriven; split
  · exact keepsLaws_completeFrame s
  · exact (keepsLaws_withWalker _).trans (keepsLaws_driveNext _)

theorem keepsLaws_blankSent (s : State) : KeepsLaws s s.blankSent := by
  unfold State.blankSent; split
  · exact .refl s
  · exact (keepsLaws_withWalker _).trans (keepsLaws_drive _ _)

/-! ## The raster walker, where a frame may begin -/

/-- R45: a frame has begun, and has latched the geometry and the settings that were in force. -/
def FrameLatched (s t : State) : Prop :=
  t.walker.frameNumber = s.walker.frameNumber + 1 ∧
    t.walker.latches.geometry = s.table.geometry ∧
    t.walker.latches.driveMax = s.walker.driveMax ∧
    t.walker.latches.probeInterval = s.walker.probeInterval

/-- What every command but a hard reset does to the laws and to the frame latches. -/
structure StepLaws (s t : State) : Prop where
  inserts : s.arbiter.insertValid → t.arbiter.insertValid
  settings : SettingsLaws s → SettingsLaws t
  frame : t.walker.latches = s.walker.latches ∨ FrameLatched s t

theorem KeepsLaws.stepLaws {s t : State} (h : KeepsLaws s t) : StepLaws s t :=
  ⟨h.inserts, h.settings, .inl h.latches⟩

/-- What happens before a frame may begin leaves what the frame latches. -/
theorem StepLaws.after {s t u : State} (h : KeepsLaws s t) (walker : t.walker = s.walker)
    (geometry : t.table.geometry = s.table.geometry) (h' : StepLaws t u) : StepLaws s u where
  inserts := h'.inserts ∘ h.inserts
  settings := h'.settings ∘ h.settings
  frame := by
    have := h'.frame
    unfold FrameLatched at this
    rwa [walker, geometry] at this

/-- R45: the settings that a frame start latches are in range. -/
theorem SettingsLaws.latch {s : State} (h : SettingsLaws s) :
    s.latch.geometry.lawful ∧ driveMaxLawful s.latch.driveMax :=
  ⟨h.geometry, h.walker.1⟩

theorem stepLaws_beginFrame (s : State) : StepLaws s s.beginFrame := by
  unfold State.beginFrame
  dsimp only
  generalize hw : ({ s.walker with
    state := .walking, frameNumber := s.walker.frameNumber + 1, latches := s.latch
    position := ⟨0, 0⟩, running := 0, timer := .running, blankSend := none, levels := []
    arrived := 0, held := false, heldLevels := [], heldExpiry := false
    ending := none } : Walker) = w
  have begun : KeepsLaws (s.withWalker w)
      (s.walker.heldLevels.foldl State.levelArrives ((s.withWalker w).drive [.startMark])) :=
    (keepsLaws_drive _ _).trans (keepsLaws_levels _ _)
  refine ⟨begun.inserts, fun h => begun.settings { h with walker := ?_ }, .inr ?_⟩
  · obtain ⟨drive, -, -, applied⟩ := h.walker
    rw [← hw]
    exact ⟨drive, h.latch, Nat.zero_le _, applied⟩
  · have latched : FrameLatched s (s.withWalker w) := by
      rw [← hw]; exact ⟨rfl, rfl, rfl, rfl⟩
    unfold FrameLatched
    rw [begun.latches, begun.frameNumber]
    exact latched

theorem stepLaws_endShort (s : State) : StepLaws s s.endShort :=
  (stepLaws_beginFrame _).after (keepsLaws_raise s _) rfl rfl

theorem stepLaws_endAbandoned (s : State) (e : Ending) : StepLaws s (s.endAbandoned e) := by
  cases e with
  | short => exact stepLaws_endShort s
  | lost => exact (keepsLaws_loseVideo s).stepLaws

/-- R50: the running count stays at most 512. -/
theorem stepLaws_emitterFound (s : State) (found : Option Record) :
    StepLaws s (s.emitterFound found) := by
  have counted : KeepsLaws s ((s.withWalker { s.walker with
      running := s.walker.runningAfter found }).drive (s.emitterCodes found)) := by
    refine (keepsLaws_withWalker _ fun h => ?_).trans (keepsLaws_drive _ _)
    obtain ⟨drive, latched, -, applied⟩ := h.walker
    exact ⟨drive, latched, s.walker.runningAfter_le found, applied⟩
  unfold State.emitterFound
  split
  · exact stepLaws_endAbandoned s _
  · dsimp only
    split
    · exact (counted.trans (keepsLaws_emitterDriven _)).stepLaws
    · exact (counted.trans (keepsLaws_askWalker _ _)).stepLaws

theorem stepLaws_emitterStamped (s : State) : StepLaws s s.emitterStamped := by
  unfold State.emitterStamped
  split
  · exact stepLaws_endAbandoned s _
  · exact (keepsLaws_emitterDriven s).stepLaws

theorem stepLaws_abandonFrame (s : State) (e : Ending) : StepLaws s (s.abandonFrame e) := by
  unfold State.abandonFrame
  split
  · exact stepLaws_endAbandoned s e
  · exact (keepsLaws_withWalker _).stepLaws

theorem keepsLaws_holdFrameStart (s : State) : KeepsLaws s s.holdFrameStart :=
  keepsLaws_withWalker _

theorem stepLaws_frameStartArrives (s : State) : StepLaws s s.frameStartArrives := by
  unfold State.frameStartArrives
  split
  iterate 3
    split
    · exact (keepsLaws_holdFrameStart s).stepLaws
    · exact stepLaws_beginFrame s
  split
  · exact (keepsLaws_withWalker _).stepLaws
  · exact (keepsLaws_holdFrameStart s).stepLaws
  · split
    · exact (keepsLaws_holdFrameStart s).stepLaws
    · exact stepLaws_abandonFrame s _

theorem stepLaws_takeHeldFrameStart (s : State) : StepLaws s s.takeHeldFrameStart := by
  unfold State.takeHeldFrameStart
  split
  · exact stepLaws_beginFrame s
  · exact (KeepsLaws.refl s).stepLaws

theorem stepLaws_timerExpires (s : State) : StepLaws s s.timerExpires := by
  unfold State.timerExpires
  repeat' split
  · exact (KeepsLaws.refl s).stepLaws
  · exact (KeepsLaws.refl s).stepLaws
  · exact (KeepsLaws.refl s).stepLaws
  · exact (keepsLaws_loseVideo s).stepLaws
  · exact (KeepsLaws.refl s).stepLaws
  · exact (keepsLaws_withWalker _).stepLaws
  · exact stepLaws_abandonFrame s _

end Sys2Proof.Machine
end

section
/-! PROOFS. The laws that every command keeps, carried through the port, the command engine, the image store and each command; and the invariants that follow (R2, R7, R8, R13, R42, R65). -/
namespace Sys2Proof.Machine

/-! ## Ranges that the port and the image check -/

/-- R59, R164: DRIVE_MAX passes its test exactly when it is in range. -/
theorem driveMaxValid_iff (n : Nat) : driveMaxValid n = true ↔ driveMaxLawful n := by
  simp [driveMaxValid, driveMaxLawful]

/-- R80, R164: settings that pass their test are in range. -/
theorem monitorSettingsLawful_of_valid {d h e : Nat} (hv : monitorSettingsValid d h e = true) :
    monitorSettingsLawful d h := by
  simp only [monitorSettingsValid, Bool.and_eq_true, decide_eq_true_eq] at hv
  exact hv.1

/-- R2: counts less one, carried as bytes, are in range when the rows' byte is. -/
theorem Geometry.lawful_of_bytes {rows : Byte} (cols : Byte) (h : rows.toNat ≤ 127) :
    (Geometry.mk (rows.toNat + 1) (cols.toNat + 1)).lawful := by
  have := cols.isLt
  simp only [Geometry.lawful, Config.maxRows, Config.maxCols]
  omega

theorem Geometry.lawful_default : Geometry.default.lawful := by
  unfold Geometry.lawful; decide

theorem driveMaxLawful_greatest : driveMaxLawful Config.greatestDriveMax := by
  unfold driveMaxLawful; decide

theorem monitorSettingsLawful_reset :
    monitorSettingsLawful Config.resetDebounce Config.resetHealProbes := by
  unfold monitorSettingsLawful; decide

/-- R164 step 5: a header that passes its checks is in range. -/
theorem Header.lawful_of_bytes {bytes : List Byte} {h : Header}
    (hb : headerOfBytes bytes = some h) : h.lawful := by
  unfold headerOfBytes at hb
  split at hb
  · split at hb
    · cases hb
    · rename_i hchecks
      simp only [not_or, Bool.not_eq_false] at hchecks
      obtain ⟨-, -, rows, drive, monitor⟩ := hchecks
      obtain ⟨i, -, rfl⟩ := Option.map_eq_some_iff.mp hb
      exact ⟨Geometry.lawful_of_bytes _ (by omega), (driveMaxValid_iff _).mp drive,
        monitorSettingsLawful_of_valid monitor⟩
  · cases hb

/-! ## The port and the commands as they are taken -/

theorem keepsLaws_setWrite (s : State) (w : PortWrite) : KeepsLaws s (s.setWrite w) :=
  keepsLaws_withEngine s _

theorem keepsLaws_acceptRequest (s : State) : KeepsLaws s s.acceptRequest := by
  unfold State.acceptRequest; split
  · exact (keepsLaws_withEngine s _).trans (keepsLaws_raise _ _)
  · exact .refl s

theorem keepsLaws_unitFirstByte (s : State) (b : Byte) : KeepsLaws s (s.unitFirstByte b) := by
  unfold State.unitFirstByte; repeat' split
  · exact (keepsLaws_setWrite s _).trans (keepsLaws_bus _ _)
  · exact ((keepsLaws_acceptRequest s).trans (keepsLaws_setWrite _ _)).trans (keepsLaws_bus _ _)
  · exact (keepsLaws_setWrite s _).trans (keepsLaws_bus _ _)

theorem keepsLaws_groupFirstByte (s : State) : KeepsLaws s s.groupFirstByte := by
  unfold State.groupFirstByte; split
  all_goals exact (keepsLaws_setWrite s _).trans (keepsLaws_bus _ _)

theorem keepsLaws_acceptWrite (s : State) (via : Via) : KeepsLaws s (s.acceptWrite via) := by
  unfold State.acceptWrite; repeat' split
  · exact keepsLaws_setWrite s _
  · exact keepsLaws_setWrite s _
  · exact (keepsLaws_acceptRequest s).trans (keepsLaws_setWrite _ _)

theorem keepsLaws_discardWrite (s : State) (via : Via) : KeepsLaws s (s.discardWrite via) :=
  (keepsLaws_setWrite s _).trans (keepsLaws_bus _ _)

theorem keepsLaws_readAnswer (s : State) (n : Nat) : KeepsLaws s (s.readAnswer n) := by
  unfold State.readAnswer; split
  · split
    · exact keepsLaws_bus s _
    · exact (keepsLaws_withEngine s _).trans (keepsLaws_bus _ _)
  · exact keepsLaws_bus s _

theorem keepsLaws_abortEnds (s : State) : KeepsLaws s s.abortEnds := by
  have taken : KeepsLaws s s.takeAbort := by
    unfold State.takeAbort; repeat' split
    · exact .refl s
    · exact .refl s
    · exact keepsLaws_withEngine s _
  exact (taken.trans (keepsLaws_setWrite _ _)).trans (keepsLaws_bus _ _)

theorem keepsLaws_reportViolation (s : State) (v : Violation) :
    KeepsLaws s (s.reportViolation v) := by
  unfold State.reportViolation; split
  · exact (keepsLaws_withAccess s _).trans (keepsLaws_raise _ _)
  · exact keepsLaws_withAccess s _

theorem keepsLaws_startOpenService (s : State) : KeepsLaws s s.startOpenService := by
  unfold State.startOpenService; split
  · exact (keepsLaws_withAccess s _).trans (keepsLaws_respond _ _ _ _)
  · exact (keepsLaws_reportViolation s _).trans (keepsLaws_respond _ _ _ _)

theorem keepsLaws_startSetEventMask (m : Word16) (s : State) :
    KeepsLaws s (s.startSetEventMask m) := by
  unfold State.startSetEventMask; split
  · exact keepsLaws_respond s _ _ _
  · exact (keepsLaws_withEvents s _).trans (keepsLaws_respond _ _ _ _)

/-- R59: SET_DRIVE writes a DRIVE_MAX that it has checked. -/
theorem keepsLaws_startSetDrive (via : Via) (d : Word16) (i : Byte) (s : State) :
    KeepsLaws s (s.startSetDrive via d i) := by
  unfold State.startSetDrive
  split
  · exact keepsLaws_respond s _ _ _
  · split
    · rename_i hd
      refine (keepsLaws_withWalker _ fun h => ?_).trans (keepsLaws_respond _ _ _ _)
      exact ⟨(driveMaxValid_iff _).mp hd, h.walker.2⟩
    · exact keepsLaws_respond s _ _ _

theorem keepsLaws_startStore (s : State) (w : StoreWork) (b : BeginReq) (h : w.headerLawful) :
    KeepsLaws s (s.startStore w b) := keepsLaws_withStore _ fun _ => h

theorem keepsLaws_startSave (via : Via) (s : State) : KeepsLaws s (s.startSave via) := by
  unfold State.startSave; split
  · exact (keepsLaws_startStore s _ _ (StoreWork.headerLawful_saving _)).trans
      (keepsLaws_respond _ _ _ _)
  · exact keepsLaws_respond s _ _ _

/-- R80: SET_MONITOR asks with settings that it has checked. -/
theorem keepsLaws_startSetMonitor (via : Via) (d h e : Byte) (s : State) :
    KeepsLaws s (s.startSetMonitor via d h e) := by
  unfold State.startSetMonitor; split
  · rename_i hv
    exact (keepsLaws_withEngine s _).trans
      (keepsLaws_askOfMonitor fun _ => monitorSettingsLawful_of_valid hv)
  · exact keepsLaws_respond s _ _ _

theorem keepsLaws_startSuspects (s : State) : KeepsLaws s s.startSuspects :=
  (keepsLaws_withEngine s _).trans keepsLaws_askOfMonitor

theorem keepsLaws_startClearSuspects (s : State) : KeepsLaws s s.startClearSuspects :=
  (keepsLaws_withEngine s _).trans keepsLaws_askOfMonitor

theorem keepsLaws_startTableCommand (code : Byte) (s : State) {r : EngineReq}
    (h : r.lawful := by exact trivial) : KeepsLaws s (s.startTableCommand code r) :=
  (keepsLaws_withEngine s _).trans (keepsLaws_askEngine _ h)

/-- R3: SET_GEOMETRY asks with counts that it has checked. -/
theorem keepsLaws_startSetGeometry (r c : Byte) (s : State) :
    KeepsLaws s (s.startSetGeometry r c) := by
  unfold State.startSetGeometry; split
  · exact keepsLaws_respond s _ _ _
  · rename_i hr
    have lawful := Geometry.lawful_of_bytes c (Nat.not_lt.mp hr)
    exact keepsLaws_startTableCommand _ s lawful

theorem keepsLaws_startLoad (s : State) : KeepsLaws s s.startLoad := by
  unfold State.startLoad; split
  · exact keepsLaws_startTableCommand _ s
  · exact keepsLaws_respond s _ _ _

theorem keepsLaws_startSweep (p : SweepParams) (s : State) : KeepsLaws s (s.startSweep p) :=
  (keepsLaws_withEngine s _).trans (keepsLaws_askEngine _)

/-! ## The geometry under the table operations -/

theorem Table.insert_geometry (t : Table) (level : AccessLevel) (i : RecordImage) :
    (t.insert level i).1.geometry = t.geometry := by
  unfold Table.insert; repeat' split
  all_goals rfl

theorem Table.amend_geometry (t : Table) (level : AccessLevel) (sel : Byte) (i : RecordImage) :
    (t.amend level sel i).1.geometry = t.geometry := by
  unfold Table.amend; repeat' split
  all_goals rfl

theorem Table.remove_geometry (t : Table) (level : AccessLevel) (row col : Byte) :
    (t.remove level row col).1.geometry = t.geometry := by
  unfold Table.remove; repeat' split
  all_goals rfl

theorem Table.countOn_geometry (t : Table) (r : Record) (c : Colour) (k : FaultKind)
    (f : FrameNo) : (t.countOn r c k f).1.geometry = t.geometry := by
  unfold Table.countOn; dsimp only; repeat' split
  all_goals rfl

theorem Table.faultUpdate_geometry (t : Table) (key : Key) (c : Colour) (k : FaultKind)
    (f : FrameNo) : (t.faultUpdate key c k f).1.geometry = t.geometry := by
  unfold Table.faultUpdate; repeat' split
  · rfl
  · rfl
  · exact t.countOn_geometry _ c k f

theorem Table.promote_geometry (t : Table) (key : Key) (c : Colour) (k : FaultKind)
    (f : FrameNo) : (t.promote key c k f).1.geometry = t.geometry := by
  unfold Table.promote; repeat' split
  · rfl
  · rfl
  · exact t.countOn_geometry _ c k f
  all_goals rfl

theorem Table.stamp_geometry (t : Table) (key : Key) (f : FrameNo) (cs : List Colour) :
    (t.stamp key f cs).geometry = t.geometry := by
  unfold Table.stamp; repeat' split
  all_goals rfl

theorem Table.sweepStep_geometry (t : Table) (level : AccessLevel) (position : Option Key)
    (filter : SweepFilter) (action : SweepAction) (value : Word16) :
    (t.sweepStep level position filter action value).1.geometry = t.geometry := by
  unfold Table.sweepStep; repeat' split
  all_goals rfl

theorem Table.healStep_geometry (t : Table) (position : Option Key) (f : FrameNo) (n : Nat) :
    (t.healStep position f n).1.geometry = t.geometry := by
  unfold Table.healStep; dsimp only; repeat' split
  all_goals rfl

theorem State.tableAtRestart_geometry (s : State) :
    s.tableAtRestart.geometry = s.table.geometry := by
  unfold State.tableAtRestart
  split
  · split
    · exact Table.stamp_geometry ..
    all_goals rfl
  · split
    · exact Table.faultUpdate_geometry ..
    · exact Table.promote_geometry ..
    · exact Table.healStep_geometry ..
    all_goals rfl
  all_goals rfl

/-- R2: whatever a command does to the table, its geometry stays in range. -/
theorem geometryLawful_of_tableChange {s : State} {c : Instr} {t : Table} (hs : SettingsLaws s)
    (h : TableChange s c t) : t.geometry.lawful := by
  have same := hs.geometry
  cases h with
  | same => exact same
  | hardReset a => exact Geometry.lawful_default
  | restarted _ _ _ => rwa [State.tableAtRestart_geometry]
  | insert i _ => rwa [Table.insert_geometry]
  | promote k c f n _ => rwa [Table.promote_geometry]
  | amend sel i _ => rwa [Table.amend_geometry]
  | remove row col _ => rwa [Table.remove_geometry]
  | fault k c f n _ => rwa [Table.faultUpdate_geometry]
  | stamp k n cs _ => rwa [Table.stamp_geometry]
  | sweep p f a v _ => rwa [Table.sweepStep_geometry]
  | heal p f n _ => rwa [Table.healStep_geometry]
  | geometry g hop =>
    unfold Table.changeGeometry
    split
    · exact hs.engineAsk g (Arbiter.engine_of_engineOp hop)
    · exact same
  | beginSave _ => exact same
  | endSave _ => exact same
  | beginLoad _ => exact same
  | loadGeometry g hop =>
    unfold Table.loadGeometry
    split
    · exact hs.storeAsk g (Arbiter.store_of_storeOp hop)
    · exact same
  | loadInsert p _ =>
    unfold Table.loadInsert
    split <;> exact same
  | endLoadSuccess g _ => exact same
  | endLoadFailure _ => exact Geometry.lawful_default

/-- A command's own table operation, complete. -/
theorem keepsLaws_completed {s : State} {c : Instr} {t : Table} (cl : Client)
    (h : TableChange s c t) : KeepsLaws s (s.quiet.complete cl t) :=
  (keepsLaws_quiet s).trans (keepsLaws_complete cl fun hs => geometryLawful_of_tableChange
    ((KeepsLaws.of_same rfl rfl rfl rfl rfl rfl : KeepsLaws s.quiet s).settings hs) h)

/-! ## RESTART (R183) -/

/-- R62: RESTART leaves the settings and the frame latches, and clears the running count. -/
theorem Walker.settingsLawful_restarted {w : Walker} (h : w.settingsLawful) :
    w.restarted.settingsLawful := by
  obtain ⟨drive, latched, -, applied⟩ := h
  exact ⟨drive, latched, Nat.zero_le _, applied⟩

/-- R87: RESTART leaves the settings, and no request waits. -/
theorem Monitor.settingsLawful_restarted {m : Monitor} (h : m.settingsLawful) :
    m.restarted.settingsLawful := by
  obtain ⟨settings, latched, -⟩ := h
  exact ⟨settings, latched, nofun⟩

theorem keepsLaws_restartBlocks (s : State) : KeepsLaws s s.restartBlocks := by
  have withdrawn : KeepsLaws s
      ((s.withTable s.tableAtRestart).withArbiter s.arbiter.restarted).grantNext :=
    .of_same s.tableAtRestart_geometry rfl rfl (by simp [State.grantNext, Arbiter.restarted])
      (by simp [State.grantNext, Arbiter.restarted]) rfl
  have walkerReset := (withdrawn.trans (keepsLaws_withWalker
    (State.walker _).restarted fun h => Walker.settingsLawful_restarted h.walker)).trans
      (keepsLaws_startBlank _)
  have monitorReset := walkerReset.trans (keepsLaws_withMonitor
    (State.monitor _).restarted fun h => Monitor.settingsLawful_restarted h.monitor)
  exact ((monitorReset.trans (keepsLaws_withAccess _ _)).trans (keepsLaws_withEvents _ _)).trans
    (keepsLaws_withEngine _ _)

theorem keepsLaws_startRestart (via : Via) (s : State) : KeepsLaws s (s.startRestart via) := by
  unfold State.startRestart; split
  · exact keepsLaws_restartBlocks s
  · exact keepsLaws_respond s _ _ _

/-- A parsed request, handed to the engine. -/
theorem keepsLaws_startCommand (via : Via) (i : Instr) (s : State) :
    KeepsLaws s (s.startCommand via i) := by
  cases i <;> simp only [State.startCommand]
  case describe => exact keepsLaws_respond s _ _ _
  case status => exact keepsLaws_startTableCommand _ s
  case readEvents => exact (keepsLaws_withEvents s _).trans (keepsLaws_respond _ _ _ _)
  case setEventMask m => exact keepsLaws_startSetEventMask m s
  case readViolation => exact (keepsLaws_withAccess s _).trans (keepsLaws_respond _ _ _ _)
  case openService => exact keepsLaws_startOpenService s
  case closeService v => exact (keepsLaws_withAccess s _).trans (keepsLaws_respond _ _ _ _)
  case restart v => exact keepsLaws_startRestart via s
  case setGeometry r c => exact keepsLaws_startSetGeometry r c s
  case setDrive v d i => exact keepsLaws_startSetDrive via d i s
  case setMonitor v d h e => exact keepsLaws_startSetMonitor via d h e s
  case insert i => exact keepsLaws_startTableCommand _ s
  case amend sel i => exact keepsLaws_startTableCommand _ s
  case retire r c => exact keepsLaws_startTableCommand _ s
  case lookup r c => exact keepsLaws_startTableCommand _ s
  case next r c => exact keepsLaws_startTableCommand _ s
  case sweep p => exact keepsLaws_startSweep p s
  case suspects => exact keepsLaws_startSuspects s
  case clearSuspects => exact keepsLaws_startClearSuspects s
  case save v => exact keepsLaws_startSave via s
  case load => exact keepsLaws_startLoad s
  all_goals exact .refl s

theorem keepsLaws_takeCommand (s : State) (via : Via) (code : Byte) {body : State → State}
    (h : ∀ u, KeepsLaws u (body u)) : KeepsLaws s (s.quiet.takeCommand via code body) := by
  unfold State.takeCommand; split
  · exact (keepsLaws_quiet s).trans (keepsLaws_discardWrite _ _)
  · exact (((keepsLaws_quiet s).trans (keepsLaws_acceptWrite _ _)).trans
      (keepsLaws_bus _ _)).trans (h _)

theorem keepsLaws_unitRequest (bytes : List Byte) (s : State) :
    KeepsLaws s (s.unitRequest bytes) := by
  unfold State.unitRequest
  split
  · exact keepsLaws_respond s _ _ _
  · exact keepsLaws_respond s _ _ _
  · exact keepsLaws_startCommand _ _ s

theorem keepsLaws_groupRequest (bytes : List Byte) (s : State) :
    KeepsLaws s (s.groupRequest bytes) := by
  unfold State.groupRequest
  split
  · exact .refl s
  · exact .refl s
  · split
    · exact keepsLaws_startCommand _ _ s
    · exact .refl s

theorem keepsLaws_writeEnds (s : State) (via : Via) (bytes : List Byte) :
    KeepsLaws s (s.writeEnds via bytes) := by
  unfold State.writeEnds
  split
  · exact (keepsLaws_setWrite s _).trans (keepsLaws_bus _ _)
  · split
    · exact keepsLaws_abortEnds s
    · split
      · exact keepsLaws_discardWrite s via
      · have taken : ∀ n, KeepsLaws s ((s.acceptWrite via).bus (s.endItems via n)) :=
          fun n => (keepsLaws_acceptWrite s via).trans (keepsLaws_bus _ _)
        cases via with
        | unit => exact (taken _).trans (keepsLaws_unitRequest _ _)
        | group => exact (taken _).trans (keepsLaws_groupRequest _ _)

/-! ## Outcomes of the engine's operations -/

theorem keepsLaws_answerEdit (s : State) (c : ResultCode) (o : EditOutcome) :
    KeepsLaws s (s.answerEdit c o) := by
  unfold State.answerEdit; split <;> exact keepsLaws_respondHand s _ _

theorem keepsLaws_answerGuarded (s : State) (code : Byte) (k : Key) (l : AccessLevel)
    (o : EditOutcome) : KeepsLaws s (s.answerGuarded code k l o) := by
  unfold State.answerGuarded; split
  · exact (keepsLaws_reportViolation s _).trans (keepsLaws_answerEdit _ _ _)
  · exact keepsLaws_answerEdit s _ _

theorem keepsLaws_geometryAnswered (s : State) (b g : Geometry) (c : Bool) :
    KeepsLaws s (s.geometryAnswered b g c) := by
  unfold State.geometryAnswered; repeat' split
  · exact keepsLaws_respondHand s _ _
  · exact (keepsLaws_respondHand s _ _).trans keepsLaws_askOfMonitor
  · exact keepsLaws_respondHand s _ _

/-- R163: a load that begins has no header. -/
theorem keepsLaws_protectionAnswered (s : State) (l : AccessLevel) (p : Bool) :
    KeepsLaws s (s.protectionAnswered l p) := by
  have begun : (StoreWork.loading .begun).headerLawful := fun w h hw hh => by
    cases hw; cases hh
  unfold State.protectionAnswered; split
  · exact (keepsLaws_startStore s _ _ begun).trans (keepsLaws_respondHand _ _ _)
  · exact (keepsLaws_reportViolation s _).trans (keepsLaws_respondHand _ _ _)

theorem keepsLaws_endSweep (s : State) (c : SweepContext) (why : StopReason) :
    KeepsLaws s (s.endSweep c why) := keepsLaws_respondHand s _ _

theorem keepsLaws_askSweepStep (s : State) (c : SweepContext) : KeepsLaws s (s.askSweepStep c) := by
  unfold State.askSweepStep; split
  · exact .refl s
  · exact (keepsLaws_withEngine s _).trans (keepsLaws_askEngine _)

theorem keepsLaws_sweepStepped (s : State) (c : SweepContext) (m : Bool) (o : SweepOutcome) :
    KeepsLaws s (s.sweepStepped c m o) := by
  unfold State.sweepStepped; split
  · exact keepsLaws_endSweep s _ _
  · exact keepsLaws_askSweepStep s _

theorem keepsLaws_statusAnswered (s : State) : KeepsLaws s s.statusAnswered := by
  have started : ∀ p g m, KeepsLaws s (s.sweepStarted p g m) := fun p g m => by
    unfold State.sweepStarted; repeat' split
    · exact keepsLaws_respondHand s _ _
    · exact keepsLaws_endSweep s _ _
    · exact keepsLaws_askSweepStep s _
  unfold State.statusAnswered; repeat' split
  · exact .refl s
  · exact started _ _ _
  · exact .refl s
  · exact keepsLaws_respondHand s _ _

/-! ## The image store -/

theorem keepsLaws_setWork {s : State} (w : StoreWork) (h : SettingsLaws s → w.headerLawful) :
    KeepsLaws s (s.setWork w) := keepsLaws_withStore _ h

theorem keepsLaws_setSaving (s : State) (w : SaveWork) : KeepsLaws s (s.setWork (.saving w)) :=
  keepsLaws_setWork _ fun _ => StoreWork.headerLawful_saving w

/-- A load with a header in range. -/
theorem StoreWork.headerLawful_loading {w : LoadWork} (h : ∀ x, w.header = some x → x.lawful) :
    (StoreWork.loading w).headerLawful := fun l x hl hx => by
  obtain rfl := StoreWork.loading.inj hl
  exact h x hx

theorem keepsLaws_storeAsks (s : State) {r : StoreReq} (h : r.lawful := by exact trivial) :
    KeepsLaws s (s.storeAsks r) := (keepsLaws_setFlash s _).trans (keepsLaws_askStore _ h)

theorem keepsLaws_poll (s : State) (n : Nat) : KeepsLaws s (s.poll n) :=
  (keepsLaws_setFlash s _).trans (keepsLaws_withOut _ _)

theorem keepsLaws_beginRead (s : State) (a n : Nat) : KeepsLaws s (s.beginRead a n) :=
  (keepsLaws_setFlash s _).trans (keepsLaws_withOut _ _)

theorem keepsLaws_beginArray (s : State) (c : ArrayCommand) : KeepsLaws s (s.beginArray c) :=
  (keepsLaws_setFlash s _).trans (keepsLaws_withOut _ _)

theorem keepsLaws_askBegin (s : State) (b : BeginReq) : KeepsLaws s (s.askBegin b) := by
  have hb : b.request.lawful := by cases b <;> trivial
  unfold State.askBegin; split
  · exact (keepsLaws_withStore _).trans (keepsLaws_askStore _ hb)
  · exact .refl s

theorem keepsLaws_saveNext (s : State) (w : SaveWork) : KeepsLaws s (s.saveNext w) := by
  unfold State.saveNext
  split
  · exact keepsLaws_beginArray s _
  · split
    · exact keepsLaws_storeAsks s
    · split
      · exact keepsLaws_beginArray s _
      · split
        · split
          · exact .refl s
          · exact keepsLaws_beginArray s _
        · exact keepsLaws_storeAsks s

theorem keepsLaws_failLoad (s : State) : KeepsLaws s s.failLoad := keepsLaws_storeAsks s

/-- R166: a good load writes the header's DRIVE_MAX. -/
theorem keepsLaws_loadNext {s : State} (w : LoadWork) {h : Header}
    (hh : SettingsLaws s → h.lawful) : KeepsLaws s (s.loadNext w h) := by
  unfold State.loadNext; repeat' split
  · exact keepsLaws_beginRead s _ _
  · refine (keepsLaws_withWalker _ fun hs => ?_).trans (keepsLaws_storeAsks _)
    obtain ⟨-, drive, -⟩ := hh hs
    exact ⟨drive, hs.walker.2⟩
  · exact keepsLaws_failLoad s

theorem keepsLaws_headerRead (s : State) (w : LoadWork) (b : List Byte) :
    KeepsLaws s (s.headerRead w b) := by
  unfold State.headerRead; split
  · exact keepsLaws_failLoad s
  · rename_i h hb
    have lawful := Header.lawful_of_bytes hb
    refine (keepsLaws_setWork _ fun _ => StoreWork.headerLawful_loading ?_).trans
      (keepsLaws_storeAsks _ lawful.1)
    rintro x ⟨⟩
    exact lawful

/-- R165: the record that is about to be inserted has met R13. -/
theorem keepsLaws_slotRead {s : State} {w : LoadWork} (hw : s.store.work = .loading w)
    (b : List Byte) : KeepsLaws s (s.slotRead w b) := by
  unfold State.slotRead
  split
  · exact keepsLaws_failLoad s
  · rename_i p hp
    split
    · refine (keepsLaws_setWork _ fun hs => StoreWork.headerLawful_loading fun x hx => ?_).trans
        (keepsLaws_storeAsks _ (valid_of_slotRecord hp))
      exact hs.header w x hw hx
    · exact keepsLaws_failLoad s

theorem keepsLaws_afterEndSave (s : State) : KeepsLaws s s.afterEndSave := by
  unfold State.afterEndSave; split
  · split
    all_goals
      refine (keepsLaws_withStore _ fun _ => ?_).trans (keepsLaws_raise _ _)
      exact StoreWork.headerLawful_idle
  all_goals exact .refl s

/-- A load that ends keeps the header it accepted. -/
theorem headerLawful_ended {s : State} {w : LoadWork} (hs : SettingsLaws s)
    (hw : s.store.work = .loading w) (ended : Option Bool) :
    (StoreWork.loading { w with ended := ended }).headerLawful :=
  StoreWork.headerLawful_loading fun x hx => hs.header w x hw hx

/-- R59, R166: the settings of an accepted header become the walker's, then the monitor's. -/
theorem keepsLaws_loadSucceeds {s : State} {w : LoadWork} {h : Header}
    (hw : s.store.work = .loading w) (hh : w.header = some h) :
    KeepsLaws s (s.loadSucceeds w h) := by
  have settings : KeepsLaws s (s.setDrive h.driveMax h.probeInterval) :=
    keepsLaws_withWalker _ fun hs => by
      obtain ⟨-, drive, -⟩ := hs.header w h hw hh
      exact ⟨drive, hs.walker.2⟩
  refine (settings.trans (keepsLaws_setWork _ fun hs => headerLawful_ended hs hw (some true))).trans
    (keepsLaws_askOfMonitor fun hs => ?_)
  obtain ⟨-, -, monitor⟩ := hs.header { w with ended := some true } h rfl hh
  exact monitor

/-- R60, R166: a failed load writes the defaults. -/
theorem keepsLaws_loadFails {s : State} {w : LoadWork} (hw : s.store.work = .loading w) :
    KeepsLaws s (s.loadFails w) := by
  have settings : KeepsLaws s (s.setDrive Config.greatestDriveMax .every64) :=
    keepsLaws_withWalker _ fun hs => ⟨driveMaxLawful_greatest, hs.walker.2⟩
  exact (settings.trans (keepsLaws_setWork _ fun hs => headerLawful_ended hs hw (some false))).trans
    (keepsLaws_askOfMonitor fun _ => monitorSettingsLawful_reset)

/-! ## Every command -/

theorem stepLaws_next {s t : State} (h : StepLaws s t) :
    ∃ u, Host.Outcome.next (φ := Fault) (ρ := Refusal) t = .next u ∧ StepLaws s u := ⟨t, rfl, h⟩

/-- A command that begins no frame. -/
theorem stepLaws_of_keeps {s t : State} (h : KeepsLaws s t) :
    ∃ u, Host.Outcome.next (φ := Fault) (ρ := Refusal) t = .next u ∧ StepLaws s u :=
  ⟨t, rfl, h.stepLaws⟩

theorem stepLaws_command {s : State} (via : Via) (code : Byte) {body : State → State}
    (h : ∀ u, KeepsLaws u (body u)) :
    ∃ u, Host.Outcome.next (φ := Fault) (ρ := Refusal) (s.quiet.takeCommand via code body) =
      .next u ∧ StepLaws s u :=
  stepLaws_of_keeps (keepsLaws_takeCommand s via code h)

/-- R2, R13, R42, R45, R65: every command but a hard reset keeps the laws, and writes the frame latches only where it begins a frame. -/
theorem exec_stepLaws (c : Instr) (s : State) (hc : ∀ a, c ≠ .hardReset a) :
    ∃ t, exec c s = .next t ∧ StepLaws s t := by
  have quiet := keepsLaws_quiet s
  cases c
  case hardReset a => exact absurd rfl (hc a)
  case svcEnChange a =>
    refine stepLaws_of_keeps (quiet.trans ?_)
    unfold State.svcEnChanges
    dsimp only
    split <;> exact .of_same rfl rfl rfl rfl rfl rfl
  case frameStart => exact stepLaws_next ((stepLaws_frameStartArrives _).after quiet rfl rfl)
  case heldFrameStart => exact stepLaws_next ((stepLaws_takeHeldFrameStart _).after quiet rfl rfl)
  case pixelLevel l => exact stepLaws_of_keeps (quiet.trans (keepsLaws_levelArrives _ l))
  case videoTimerExpiry => exact stepLaws_next ((stepLaws_timerExpires _).after quiet rfl rfl)
  case blankSendOver => exact stepLaws_of_keeps (quiet.trans (keepsLaws_blankSent _))
  case faultReport r => exact stepLaws_of_keeps (quiet.trans (keepsLaws_reportArrives _ r))
  case requestAccept a b =>
    refine stepLaws_of_keeps (quiet.trans ?_)
    split
    · exact keepsLaws_bus _ _
    · exact (keepsLaws_bus _ _).trans (keepsLaws_unitFirstByte _ b)
    · exact (keepsLaws_bus _ _).trans (keepsLaws_groupFirstByte _)
  case requestWrite a b =>
    refine stepLaws_of_keeps (quiet.trans ?_)
    split
    · exact keepsLaws_bus _ _
    · exact keepsLaws_writeEnds _ _ b
  case answerRead a n =>
    refine stepLaws_of_keeps (quiet.trans ?_)
    split
    · exact keepsLaws_readAnswer _ n
    all_goals exact keepsLaws_bus _ _
  case abort n => exact stepLaws_of_keeps (quiet.trans (keepsLaws_abortEnds _))
  case describe => exact stepLaws_command _ _ fun u => keepsLaws_startCommand .unit .describe u
  case status => exact stepLaws_command _ _ fun u => keepsLaws_startCommand .unit .status u
  case readEvents => exact stepLaws_command _ _ fun u => keepsLaws_startCommand .unit .readEvents u
  case setEventMask m => exact stepLaws_command _ _ (keepsLaws_startSetEventMask m)
  case readViolation =>
    exact stepLaws_command _ _ fun u => keepsLaws_startCommand .unit .readViolation u
  case openService => exact stepLaws_command _ _ keepsLaws_startOpenService
  case closeService via =>
    exact stepLaws_command _ _ fun u => keepsLaws_startCommand via (.closeService via) u
  case restart via => exact stepLaws_command _ _ (keepsLaws_startRestart via)
  case setGeometry r c => exact stepLaws_command _ _ (keepsLaws_startSetGeometry r c)
  case setDrive via d i => exact stepLaws_command _ _ (keepsLaws_startSetDrive via d i)
  case setMonitor via d h e => exact stepLaws_command _ _ (keepsLaws_startSetMonitor via d h e)
  case insert i => exact stepLaws_command _ _ fun u => keepsLaws_startTableCommand _ u
  case amend sel i => exact stepLaws_command _ _ fun u => keepsLaws_startTableCommand _ u
  case retire r c => exact stepLaws_command _ _ fun u => keepsLaws_startTableCommand _ u
  case lookup r c => exact stepLaws_command _ _ fun u => keepsLaws_startTableCommand _ u
  case next r c => exact stepLaws_command _ _ fun u => keepsLaws_startTableCommand _ u
  case sweep p => exact stepLaws_command _ _ (keepsLaws_startSweep p)
  case suspects => exact stepLaws_command _ _ keepsLaws_startSuspects
  case clearSuspects => exact stepLaws_command _ _ keepsLaws_startClearSuspects
  case save via => exact stepLaws_command _ _ (keepsLaws_startSave via)
  case load => exact stepLaws_command _ _ keepsLaws_startLoad
  case findByKey =>
    have same := fun cl => keepsLaws_completed cl (.same (s := s) .findByKey)
    refine stepLaws_next ?_
    split
    · exact (stepLaws_emitterFound _ _).after (same .walker) rfl rfl
    · exact ((same .engine).trans (keepsLaws_answerEdit _ _ _)).stepLaws
    · exact ((same .monitor).trans (keepsLaws_suspectChecked _ _)).stepLaws
    · exact quiet.stepLaws
  case findFirstAtOrAfter =>
    refine stepLaws_of_keeps ?_
    split
    · exact (keepsLaws_completed .engine (.same .findFirstAtOrAfter)).trans
        (keepsLaws_answerEdit _ _ _)
    · exact quiet
  case tableInsert =>
    refine stepLaws_of_keeps ?_
    split
    · rename_i i hop
      exact (keepsLaws_completed .engine (.insert i hop)).trans (keepsLaws_answerGuarded _ _ _ _ _)
    · exact quiet
  case promotionInsert =>
    refine stepLaws_of_keeps ?_
    split
    · rename_i k c f n hop
      exact (keepsLaws_completed .monitor (.promote k c f n hop)).trans
        (keepsLaws_promotionAnswered _ _ _ _)
    · exact quiet
  case tableAmend =>
    refine stepLaws_of_keeps ?_
    split
    · rename_i sel i hop
      exact (keepsLaws_completed .engine (.amend sel i hop)).trans
        (keepsLaws_answerGuarded _ _ _ _ _)
    · exact quiet
  case remove =>
    refine stepLaws_of_keeps ?_
    split
    · rename_i r c hop
      exact (keepsLaws_completed .engine (.remove r c hop)).trans
        (keepsLaws_answerGuarded _ _ _ _ _)
    · exact quiet
  case faultUpdate =>
    refine stepLaws_of_keeps ?_
    split
    · rename_i k c f n hop
      exact (keepsLaws_completed .monitor (.fault k c f n hop)).trans
        (keepsLaws_faultUpdated _ _ _ _ _ _)
    · exact quiet
  case stampProbeFrame =>
    refine stepLaws_next ?_
    split
    · rename_i k n cs hop
      exact (stepLaws_emitterStamped _).after (keepsLaws_completed .walker (.stamp k n cs hop)) rfl
        (Table.stamp_geometry _ _ _ _)
    · exact quiet.stepLaws
  case sweepStep =>
    refine stepLaws_of_keeps ?_
    split
    · rename_i p f a v c m hop _
      exact (keepsLaws_completed .engine (.sweep p f a v hop)).trans
        (keepsLaws_sweepStepped _ _ _ _)
    · exact quiet
  case healStep =>
    refine stepLaws_of_keeps ?_
    split
    · rename_i p f n hop
      exact (keepsLaws_completed .monitor (.heal p f n hop)).trans (keepsLaws_healStepped _ _)
    · exact quiet
  case statusRead =>
    refine stepLaws_of_keeps ?_
    split
    · exact (keepsLaws_completed .engine (.same .statusRead)).trans (keepsLaws_statusAnswered _)
    · exact quiet
  case geometryChange =>
    refine stepLaws_of_keeps ?_
    split
    · rename_i g hop
      exact (keepsLaws_completed .engine (.geometry g hop)).trans
        (keepsLaws_geometryAnswered _ _ _ _)
    · exact quiet
  case protectionTest =>
    refine stepLaws_of_keeps ?_
    split
    · exact (keepsLaws_completed .engine (.same .protectionTest)).trans
        (keepsLaws_protectionAnswered _ _ _)
    · exact quiet
  case beginSave =>
    have asked := quiet.trans (keepsLaws_askBegin s.quiet .save)
    refine stepLaws_of_keeps ?_
    split
    · refine asked.trans ((keepsLaws_complete .store fun h => ?_).trans
        ((keepsLaws_setSaving _ _).trans (keepsLaws_poll _ _)))
      have geometry := h.geometry
      rw [(keeps_askBegin s.quiet .save).table] at geometry
      exact geometry
    · exact asked
  case saveRead =>
    refine stepLaws_of_keeps ?_
    split
    · exact (keepsLaws_completed .store (.same .saveRead)).trans
        ((keepsLaws_setSaving _ _).trans (keepsLaws_saveNext _ _))
    · exact quiet
  case endSave =>
    refine stepLaws_of_keeps ?_
    split
    · rename_i hop
      exact (keepsLaws_completed .store (.endSave hop)).trans (keepsLaws_afterEndSave _)
    · exact quiet
  case beginLoad =>
    have asked := quiet.trans (keepsLaws_askBegin s.quiet .load)
    refine stepLaws_of_keeps ?_
    split
    · refine asked.trans ((keepsLaws_complete .store fun h => ?_).trans keepsLaws_askOfMonitor)
      have geometry := h.geometry
      rw [(keeps_askBegin s.quiet .load).table] at geometry
      exact geometry
    · exact asked
  case loadGeometry =>
    refine stepLaws_of_keeps ?_
    split
    · rename_i g h _ _ _ _ _ hop hw
      exact (keepsLaws_completed .store (.loadGeometry g hop)).trans
        (keepsLaws_loadNext _ fun hs => hs.header _ _ hw rfl)
    · exact quiet
  case loadInsert =>
    refine stepLaws_of_keeps ?_
    split
    · rename_i p h _ _ _ _ _ hop hw
      have inserted := keepsLaws_completed .store (.loadInsert p hop)
      dsimp only
      split
      · refine inserted.trans ((keepsLaws_setWork _ fun hs => ?_).trans
          (keepsLaws_loadNext _ fun hs => hs.header _ _ rfl rfl))
        exact StoreWork.headerLawful_loading fun x hx => hs.header _ x hw hx
      · exact inserted.trans (keepsLaws_failLoad _)
    · exact quiet
  case endLoad =>
    refine stepLaws_of_keeps ?_
    split
    · rename_i g h _ _ _ _ _ hop hw
      exact (keepsLaws_completed .store (.endLoadSuccess g hop)).trans
        (keepsLaws_loadSucceeds hw rfl)
    · rename_i w hop hw
      exact (keepsLaws_completed .store (.endLoadFailure hop)).trans (keepsLaws_loadFails hw)
    · exact quiet
  case readStatus b =>
    refine stepLaws_of_keeps (quiet.trans ?_)
    split
    · split
      · exact keepsLaws_poll _ _
      · split
        · exact (keepsLaws_setFlash _ _).trans (keepsLaws_saveNext _ _)
        · exact keepsLaws_beginRead _ _ _
        · exact keepsLaws_setFlash _ _
    · exact .refl _
  case writeEnable =>
    refine stepLaws_of_keeps (quiet.trans ?_)
    split
    · exact (keepsLaws_setFlash _ _).trans (keepsLaws_withOut _ _)
    · exact .refl _
  case sectorErase =>
    refine stepLaws_of_keeps (quiet.trans ?_)
    split
    · exact (keepsLaws_setSaving _ _).trans (keepsLaws_poll _ _)
    · exact .refl _
  case pageProgram =>
    refine stepLaws_of_keeps (quiet.trans ?_)
    split
    · exact (keepsLaws_setSaving _ _).trans (keepsLaws_poll _ _)
    · exact .refl _
  case readData b =>
    refine stepLaws_of_keeps (quiet.trans ?_)
    split
    · rename_i hw
      split
      · split
        · exact keepsLaws_headerRead _ _ b
        · exact keepsLaws_slotRead (s := s.quiet) hw b
      · exact .refl _
    · exact .refl _
  case flashTimeout =>
    refine stepLaws_of_keeps (quiet.trans ?_)
    split
    · exact (keepsLaws_setSaving _ _).trans (keepsLaws_storeAsks _)
    · exact keepsLaws_failLoad _
    · exact .refl _

/-- A command's next state, unless the command is a hard reset. -/
theorem stepLaws_of_exec {c : Instr} {s t : State} (h : exec c s = .next t)
    (hc : ∀ a, c ≠ .hardReset a) : StepLaws s t := by
  obtain ⟨u, hu, hl⟩ := exec_stepLaws c s hc
  obtain rfl := Host.Outcome.next.inj (hu.symm.trans h)
  exact hl

/-! ## Invariants of every step -/

/-- R61, R86: a hard reset leaves every setting in its range. -/
theorem SettingsLaws.afterHardReset (autoload : Bool) (pins : Pins) (pending : List Instr) :
    SettingsLaws (.afterHardReset autoload pins pending) where
  geometry := Geometry.lawful_default
  walker := ⟨driveMaxLawful_greatest, ⟨Geometry.lawful_default, driveMaxLawful_greatest⟩,
    Nat.zero_le _, Nat.zero_le _⟩
  monitor := ⟨monitorSettingsLawful_reset, monitorSettingsLawful_reset, nofun⟩
  engineAsk := nofun
  storeAsk := nofun
  header := by
    cases autoload with
    | false => exact StoreWork.headerLawful_idle
    | true => exact StoreWork.headerLawful_loading nofun

/-- What every command keeps, every step keeps: a step runs the front command, or idles. -/
theorem step_keeps_of_exec {P : State → Prop} (pending : ∀ s q, P s → P (s.withPending q))
    (exec_keeps : ∀ c s t, P s → exec c s = .next t → P t) {s t : State} (hs : P s)
    (h : step s = .next t) : P t := by
  unfold step at h
  split at h
  · exact Host.Outcome.next.inj h ▸ hs
  · exact exec_keeps _ _ _ (pending s _ hs) h

/-- R7, R8, R13: every command keeps the records, and the one about to be inserted, valid. -/
theorem recordsValid_of_exec (c : Instr) (s t : State) (hs : RecordsValid s)
    (h : exec c s = .next t) : RecordsValid t := by
  refine ⟨recordsValid_of_tableChange hs (leaves_of_exec h).table, ?_⟩
  by_cases hc : ∃ a, c = .hardReset a
  · obtain ⟨a, rfl⟩ := hc
    obtain rfl := Host.Outcome.next.inj h
    exact Arbiter.insertValid_empty
  · exact (stepLaws_of_exec h fun a ha => hc ⟨a, ha⟩).inserts hs.2

/-- R2, R42, R65: every command keeps the settings in range. -/
theorem settingsLaws_of_exec (c : Instr) (s t : State) (hs : SettingsLaws s)
    (h : exec c s = .next t) : SettingsLaws t := by
  by_cases hc : ∃ a, c = .hardReset a
  · obtain ⟨a, rfl⟩ := hc
    obtain rfl := Host.Outcome.next.inj h
    exact .afterHardReset a s.pins s.pending
  · exact (stepLaws_of_exec h fun a ha => hc ⟨a, ha⟩).settings hs

/-- Settles O55: the table operations keep the records valid, and a load inserts only what R13 has passed. -/
theorem recordsStayValid : Obligations.RecordsStayValid := fun _ _ hs h =>
  step_keeps_of_exec (fun _ _ => id) recordsValid_of_exec hs h

/-- Settles O57, by the laws of each block. -/
theorem settingsStayInRange : Obligations.SettingsStayInRange := fun s t hs h =>
  (settingsLawful_iff t).mpr (step_keeps_of_exec
    (fun _ _ hs => ⟨hs.geometry, hs.walker, hs.monitor, hs.engineAsk, hs.storeAsk, hs.header⟩)
    settingsLaws_of_exec ((settingsLawful_iff s).mp hs) h)

end Sys2Proof.Machine
end

section
/-! PROOFS. The drive codes (R14 to R16, R50) and the DRIVE_MAX of a frame (R45). -/
namespace Sys2Proof.Machine

/-! ## Drive codes -/

/-- R15: a DORMANT record drives as no record does. -/
theorem driveCode_of_dormant {r : Record} (h : r.pers.status = .dormant) (d : Nat)
    (probing : Bool) (c : Colour) (level : Nat) :
    driveCode d probing (some r) c level = baseCode level d := by
  simp only [driveCode, h]

/-- R16: the five conditions on a channel that is driven at the probe code. -/
theorem probes_iff (probing : Bool) (r : Record) (c : Colour) :
    probes probing r c = true ↔ probing = true ∧ r.pers.status = .active ∧
      (r.pers.action c).mode = .mute ∧ (r.pers.action c).auto = true := by
  simp [probes, and_assoc]

/-- R49: the probed colours are those that meet the conditions of R16. -/
theorem mem_probedColours_iff (probing : Bool) (found : Option Record) (c : Colour) :
    c ∈ probedColours probing found ↔ ∃ r, found = some r ∧ probes probing r c = true := by
  have hc : c ∈ colours := by cases c <;> decide
  cases found <;> simp [probedColours, hc]

/-- R16: a probe frame, with the monitor enabled and the table READY. -/
theorem State.probing_iff (s : State) :
    s.probing = true ↔ s.walker.latches.probeFrame = true ∧ s.monitor.enable = true ∧
      s.table.state = .ready := by
  simp [State.probing, and_assoc]

/-- R50: what counts as applied. -/
theorem countsAsApplied_iff (found : Option Record) :
    countsAsApplied found = true ↔ ∃ r, found = some r ∧ r.pers.status = .active := by
  cases found <;> simp [countsAsApplied]

/-- R21, R35: the walker finds nothing while the table is LOADING. -/
theorem Table.walkerFind_eq (t : Table) (k : Key) :
    t.walkerFind k = if t.state = .loading then none else t.find k := by
  unfold Table.walkerFind
  cases t.state <;> rfl

/-- R16: the probe code is in range. -/
theorem probeCode_le {d : Nat} (h : 1 ≤ d) : probeCode d ≤ d :=
  max_le h (Nat.div_le_self d 64)

/-- R15: no drive code passes DRIVE_MAX. -/
theorem driveCode_le {d level : Nat} (hd : 1 ≤ d) (hl : level ≤ 4095) (probing : Bool)
    (found : Option Record) (c : Colour) : driveCode d probing found c level ≤ d := by
  have base := baseCode_le level d hl
  cases found with
  | none => exact base
  | some r =>
    unfold driveCode
    dsimp only
    split
    · exact base
    · split
      · exact base
      · exact min_le_left _ _
      · split
        · exact probeCode_le hd
        · exact Nat.zero_le d
      · exact min_le_right _ _

/-- Settles O7, row by row of R15, with the conditions of R16 and R50 and the walker's find. -/
theorem driveCodeOfEachAction : Obligations.DriveCodeOfEachAction := by
  refine ⟨fun d level probing r c => ⟨rfl, fun h => driveCode_of_dormant h d probing c level,
    fun h => ?_⟩, State.probing_iff, fun probing found c => ?_, countsAsApplied_iff,
    fun t k => ⟨rfl, t.walkerFind_eq k⟩, fun p => ⟨rfl, rfl, rfl⟩⟩
  · refine ⟨fun hm => ?_, fun hm => ?_, fun hm => ?_, fun hm => ?_⟩
    all_goals simp only [driveCode, h, hm, probes_iff, true_and]
  · simp only [mem_probedColours_iff, probes_iff]
    exact ⟨fun ⟨r, hr, hp, rest⟩ => ⟨hp, r, hr, rest⟩, fun ⟨hp, r, hr, rest⟩ => ⟨r, hr, hp, rest⟩⟩

/-- Settles O6: the arithmetic of R14 and R16; and of the laws of every command, the one on the frame latches. -/
theorem driveMaxScalesAFrame : Obligations.DriveMaxScalesAFrame := by
  refine ⟨⟨fun _ _ => rfl, fun d => ⟨?_, ?_⟩, fun level => ?_, fun _ => rfl, by decide, by decide,
    fun d level probing found c hd _ hl => driveCode_le (by omega) hl probing found c⟩,
    fun c s t h hc => (stepLaws_of_exec h hc).frame⟩
  · simp [baseCode]
  · exact Nat.mul_div_cancel_left d (by decide)
  · exact Nat.mul_div_cancel level (by decide)

end Sys2Proof.Machine
end

section
/-! PROOFS. What INSERT, AMEND and SWEEP may supply, and what they take (R12, R113, R128). -/
namespace Sys2Proof.Machine

/-- A byte is a constant exactly when its number is. -/
theorem byte_eq_iff {b : Byte} {n : Nat} (h : n < 256) : b = BitVec.ofNat 8 n ↔ b.toNat = n :=
  ⟨fun e => by rw [e, BitVec.toNat_ofNat]; exact Nat.mod_eq_of_lt h, code_eq⟩

/-- R185: the status codes. -/
theorem statusOf_eq (b : Byte) :
    statusOf b = if b = 0 then some .active else if b = 1 then some .dormant else none := by
  unfold statusOf
  split
  · rename_i h
    obtain rfl := code_eq h
    rfl
  · rename_i h
    obtain rfl := code_eq h
    rfl
  · rename_i h0 h1
    rw [if_neg (fun e => h0 (by rw [e]; rfl)), if_neg (fun e => h1 (by rw [e]; rfl))]

/-- R12 condition 1: the origins that may be supplied. -/
theorem suppliedOrigin_eq (b : Byte) :
    suppliedOrigin b =
      if b = 1 then some .factory else if b = 2 then some .service else none := by
  unfold suppliedOrigin originOf
  split
  · rename_i h
    obtain rfl := code_eq h
    rfl
  · rename_i h
    obtain rfl := code_eq h
    rfl
  · rename_i h
    obtain rfl := code_eq h
    rfl
  · rename_i h1 h2 h3
    rw [if_neg (fun e => h1 (by rw [e]; rfl)), if_neg (fun e => h2 (by rw [e]; rfl))]
    rfl

/-- R12 conditions 3 to 5: an unmarked mode byte whose mode admits the value. -/
theorem suppliedAction_eq_bind (a : ActionImage) :
    suppliedAction a =
      if 128 ≤ a.mode.toNat then none
      else (modeOf a.mode.toNat).bind fun m =>
        if m.admits a.value.toNat then some ⟨m, a.value.toNat, false⟩ else none := by
  unfold suppliedAction actionOf
  by_cases marked : 128 ≤ a.mode.toNat
  · rw [if_pos marked]
    repeat' split
    all_goals simp [marked]
  · rw [if_neg marked, Nat.mod_eq_of_lt (Nat.not_le.mp marked)]
    cases modeOf a.mode.toNat with
    | none => rfl
    | some m =>
      simp only [Option.bind_some]
      split <;> simp [marked]

/-- R12 conditions 3 to 5, mode by mode. -/
theorem suppliedAction_eq (a : ActionImage) :
    suppliedAction a =
      if a.mode = 0 ∧ a.value = 0 then some ⟨.pass, 0, false⟩
      else if a.mode = 1 ∧ a.value.toNat ≤ 2047 then some ⟨.trim, a.value.toNat, false⟩
      else if a.mode = 2 ∧ a.value = 0 then some ⟨.mute, 0, false⟩
      else if a.mode = 3 ∧ a.value.toNat ≤ 4095 then some ⟨.hold, a.value.toNat, false⟩
      else none := by
  obtain ⟨mode, value⟩ := a
  have zero : value.toNat = 0 ↔ value = 0#16 := by rw [← BitVec.toNat_inj]; rfl
  rw [suppliedAction_eq_bind]
  unfold modeOf
  dsimp only
  split
  · rename_i marked
    have unmarked : ∀ n < 128, mode ≠ BitVec.ofNat 8 n := fun n hn e => by
      rw [e, BitVec.toNat_ofNat] at marked
      omega
    rw [if_neg (fun h => unmarked 0 (by decide) h.1), if_neg (fun h => unmarked 1 (by decide) h.1),
      if_neg (fun h => unmarked 2 (by decide) h.1), if_neg (fun h => unmarked 3 (by decide) h.1)]
  · split
    · rename_i h
      obtain rfl := code_eq h
      by_cases hv : value = 0#16 <;> simp [Mode.admits, hv, zero]
    · rename_i h
      obtain rfl := code_eq h
      by_cases hv : value.toNat ≤ 2047 <;> simp [Mode.admits, Config.maxGain, hv]
    · rename_i h
      obtain rfl := code_eq h
      by_cases hv : value = 0#16 <;> simp [Mode.admits, hv, zero]
    · rename_i h
      obtain rfl := code_eq h
      by_cases hv : value.toNat ≤ 4095 <;> simp [Mode.admits, Config.greatestDriveMax, hv]
    · rename_i h0 h1 h2 h3
      rw [if_neg fun h => h0 (by rw [h.1]; rfl), if_neg fun h => h1 (by rw [h.1]; rfl),
        if_neg fun h => h2 (by rw [h.1]; rfl), if_neg fun h => h3 (by rw [h.1]; rfl)]
      rfl

/-- R12 conditions 3 to 5, as a test. -/
theorem suppliedAction_isSome_iff (a : ActionImage) :
    (suppliedAction a).isSome = true ↔
      (a.mode = 0 ∧ a.value = 0) ∨ (a.mode = 1 ∧ a.value.toNat ≤ 2047) ∨
        (a.mode = 2 ∧ a.value = 0) ∨ (a.mode = 3 ∧ a.value.toNat ≤ 4095) := by
  rw [suppliedAction_eq]
  repeat' split
  all_goals simp_all

/-- R113: the test of AMEND. -/
theorem amendFields_isSome_iff (sel : Byte) (i : RecordImage) :
    (amendFields sel i).isSome = true ↔
      1 ≤ sel.toNat ∧ sel.toNat ≤ 63 ∧ (sel.getLsbD 0 = true → (statusOf i.status).isSome) ∧
      (sel.getLsbD 1 = true → (suppliedAction i.red).isSome) ∧
      (sel.getLsbD 2 = true → (suppliedAction i.green).isSome) ∧
      (sel.getLsbD 3 = true → (suppliedAction i.blue).isSome) ∧
      (sel.getLsbD 5 = true → (suppliedOrigin i.origin).isSome) := by
  simp only [Option.isSome_iff_exists (x := amendFields sel i), amendFields_eq_some_iff,
    selectedField_eq_some_iff]
  constructor
  · rintro ⟨a, ⟨hlow, hhigh⟩, ⟨st, -⟩, ⟨r, -⟩, ⟨g, -⟩, ⟨b, -⟩, -, ⟨o, -⟩⟩
    exact ⟨hlow, hhigh, st, r, g, b, o⟩
  · rintro ⟨hlow, hhigh, st, r, g, b, o⟩
    exact ⟨⟨_, _, _, _, _, _⟩, ⟨hlow, hhigh⟩, ⟨st, rfl⟩, ⟨r, rfl⟩, ⟨g, rfl⟩, ⟨b, rfl⟩,
      ⟨fun _ => rfl, rfl⟩, ⟨o, rfl⟩⟩

/-- R113: the fields that AMEND takes. -/
theorem amendFields_taken {sel : Byte} {i : RecordImage} {a : AmendFields}
    (h : amendFields sel i = some a) :
    a.status = (if sel.getLsbD 0 then statusOf i.status else none) ∧
      a.red = (if sel.getLsbD 1 then suppliedAction i.red else none) ∧
      a.green = (if sel.getLsbD 2 then suppliedAction i.green else none) ∧
      a.blue = (if sel.getLsbD 3 then suppliedAction i.blue else none) ∧
      a.tag = (if sel.getLsbD 4 then some i.tag else none) ∧
      a.origin = (if sel.getLsbD 5 then suppliedOrigin i.origin else none) := by
  simp only [amendFields_eq_some_iff, selectedField_eq_some_iff] at h
  obtain ⟨-, ⟨-, st⟩, ⟨-, r⟩, ⟨-, g⟩, ⟨-, b⟩, ⟨-, t⟩, ⟨-, o⟩⟩ := h
  exact ⟨st, r, g, b, t, o⟩

/-- R185: the number of a sweep action. -/
def SweepAction.number : SweepAction → Nat
  | .activate => 0
  | .makeDormant => 1
  | .retire => 2
  | .clearFaults => 3
  | .retag => 4

/-- R185: an action code is read exactly when it is the action's number. -/
theorem sweepActionOf_eq_some_iff {b : Byte} {a : SweepAction} :
    sweepActionOf b = some a ↔ b.toNat = a.number := by
  unfold sweepActionOf
  split
  all_goals
    rename_i h
    cases a <;> simp_all [SweepAction.number]

/-- R128: an action code is known up to 4. -/
theorem sweepActionOf_isSome_iff (b : Byte) : (sweepActionOf b).isSome = true ↔ b.toNat ≤ 4 := by
  simp only [Option.isSome_iff_exists, sweepActionOf_eq_some_iff]
  constructor
  · rintro ⟨a, h⟩
    rw [h]
    cases a <;> decide
  · intro h
    interval_cases b.toNat
    exacts [⟨.activate, rfl⟩, ⟨.makeDormant, rfl⟩, ⟨.retire, rfl⟩, ⟨.clearFaults, rfl⟩,
      ⟨.retag, rfl⟩]

/-- R128: the ranges of a sweep's fields, but for its action code. -/
def sweepInRange (p : SweepParams) : Prop :=
  1 ≤ p.originSet.toNat ∧ p.originSet.toNat ≤ 7 ∧ 1 ≤ p.statusSet.toNat ∧
    p.statusSet.toNat ≤ 3 ∧ p.firstRow.toNat ≤ p.lastRow.toNat ∧ p.tagPresence.toNat ≤ 1 ∧
    1 ≤ p.limit.toNat ∧ p.limit.toNat ≤ 512

/-- R131: the filter that a sweep's parameters give. -/
def sweepFilterOf (p : SweepParams) : SweepFilter :=
  ⟨p.originSet.getLsbD 0, p.originSet.getLsbD 1, p.originSet.getLsbD 2,
    p.statusSet.getLsbD 0, p.statusSet.getLsbD 1, p.firstRow.toNat, p.lastRow.toNat,
    if p.tagPresence = 1 then some p.tagMatch else none⟩

/-- R128: what a sweep's parameters must meet, and what they give. -/
theorem sweepFields_eq_some_iff {p : SweepParams} {f : SweepFilter} {a : SweepAction}
    {limit : Nat} :
    sweepFields p = some (f, a, limit) ↔
      sweepInRange p ∧ sweepActionOf p.action = some a ∧ f = sweepFilterOf p ∧
        limit = p.limit.toNat := by
  have present : (p.tagPresence.toNat = 1) = (p.tagPresence = 1) :=
    propext (byte_eq_iff (n := 1) (by decide)).symm
  unfold sweepFields sweepInRange sweepFilterOf
  split
  · simp_all
  · rename_i action haction
    split
    · rename_i out
      simp only [reduceCtorEq, false_iff, Config.tableCapacity] at out ⊢
      omega
    · rename_i inside
      simp only [Config.tableCapacity] at inside
      have range := inside
      simp only [present, haction, Option.some.injEq, Prod.mk.injEq]
      constructor
      · rintro ⟨rfl, rfl, rfl⟩
        exact ⟨by omega, rfl, rfl, rfl⟩
      · rintro ⟨-, rfl, rfl, rfl⟩
        exact ⟨rfl, rfl, rfl⟩

/-- R128: the test of SWEEP. -/
theorem sweepFields_isSome_iff (p : SweepParams) :
    (sweepFields p).isSome = true ↔ sweepInRange p ∧ p.action.toNat ≤ 4 := by
  rw [← sweepActionOf_isSome_iff]
  simp only [Option.isSome_iff_exists, Prod.exists, sweepFields_eq_some_iff]
  exact ⟨fun ⟨_, a, _, range, ha, _, _⟩ => ⟨range, a, ha⟩,
    fun ⟨range, a, ha⟩ => ⟨_, a, _, range, ha, rfl, rfl⟩⟩

/-- Settles O36: each operand form by its own test. -/
theorem suppliedFieldsAreChecked : Obligations.SuppliedFieldsAreChecked := by
  refine ⟨fun i => ?_, fun sel i => ⟨amendFields_isSome_iff sel i, fun a => amendFields_taken⟩,
    fun p => ⟨?_, fun f a limit h => ?_⟩, statusOf_eq, suppliedOrigin_eq, suppliedAction_eq,
    fun i p => persistentOf_eq_some_iff⟩
  · have origin : (suppliedOrigin i.origin).isSome = true ↔ i.origin = 1 ∨ i.origin = 2 := by
      rw [suppliedOrigin_eq]
      repeat' split
      all_goals simp_all
    have status : (statusOf i.status).isSome = true ↔ i.status = 0 ∨ i.status = 1 := by
      rw [statusOf_eq]
      repeat' split
      all_goals simp_all
    simp only [suppliedRecord, persistentOf_isSome_iff, origin, status, suppliedAction_isSome_iff]
  · rw [sweepFields_isSome_iff]
    unfold sweepInRange
    tauto
  · obtain ⟨-, ha, rfl, rfl⟩ := sweepFields_eq_some_iff.mp h
    exact ⟨rfl, rfl, (sweepActionOf_eq_some_iff.mp ha).trans (by cases a <;> rfl)⟩

end Sys2Proof.Machine
end

section
/-! PROOFS. Commands that ask for one table operation (R105, R182), and the engine's answers to the geometry change (R3) and to the status read of a sweep (R130, R136). -/
namespace Sys2Proof.Machine

/-! ## A command whose write is taken -/

/-- The state in which a command is carried out: its write accepted, its bytes acknowledged. -/
def State.taken (s : State) (via : Via) (code : Byte) : State :=
  (s.acceptWrite via).quiet.bus (s.endItems via (2 + (paramLength code).getD 0))

/-- Up to the command itself only the port has acted. -/
theorem unchangedBut_taken (s : State) (via : Via) (code : Byte) :
    UnchangedBut [.engine, .events] s (s.taken via code) := by
  rw [unchangedBut_iff]
  simp [State.taken]

theorem taken_engine (s : State) (via : Via) (code : Byte) :
    (s.taken via code).engine = ⟨s.engine.hand, (s.acceptWrite via).engine.answer, .none⟩ := by
  rw [← acceptWrite_hand s via, ← acceptWrite_write s via]; rfl

/-- Two commands' frames, one after the other. -/
theorem UnchangedBut.trans {bs cs : List Block} {s t u : State} (h : UnchangedBut bs s t)
    (h' : UnchangedBut cs t u) : UnchangedBut (bs ++ cs) s u := by
  refine ⟨fun b hb => ?_, h'.2.trans h.2⟩
  obtain ⟨hbs, hcs⟩ := not_or.mp fun hm => hb (List.mem_append.mpr hm)
  have first := h.1 b hbs
  have second := h'.1 b hcs
  cases b
  all_goals exact Eq.trans second first

/-- R105, R182: a table command is in hand and its operation is asked for. -/
theorem exec_asks {s : State} {c : Instr} {code : Byte} {r : EngineReq} {body : State → State}
    (hs : s.refusesWrite .unit = false)
    (hc : exec c s = .next (s.quiet.takeCommand .unit code body))
    (hb : body (s.taken .unit code) = (s.taken .unit code).startTableCommand code r) :
    ∃ t, exec c s = .next t ∧ Executing s .unit code t ∧
      t.arbiter = { s.arbiter with engine := some r }.granted s.access.level ∧
      t.events = (s.acceptWrite .unit).events ∧ UnchangedBut [.engine, .arbiter, .events] s t := by
  rw [takeCommand_of_taken s .unit code body hs] at hc
  refine ⟨_, hc, ?_⟩
  rw [show body ((s.acceptWrite .unit).quiet.bus _) = _ from hb]
  have asked : UnchangedBut [.engine, .arbiter] (s.taken .unit code)
      ((s.taken .unit code).startTableCommand code r) := by
    rw [unchangedBut_iff]
    simp [State.startTableCommand, State.takeInHand, State.askEngine_eq]
  refine ⟨?_, ?_, rfl, ((unchangedBut_taken s .unit code).trans asked).mono (by decide)⟩
  · show Engine.mk _ (s.taken .unit code).engine.answer (s.taken .unit code).engine.write = _
    rw [taken_engine]
  · simp [State.startTableCommand, State.takeInHand, State.askEngine_eq, State.taken]

/-- R177, R180: a command that is answered at once. -/
theorem exec_answers {s : State} {c : Instr} {via : Via} {code : Byte} {body : State → State}
    {result : ResultCode} {data : List Byte} (hs : s.refusesWrite via = false)
    (hc : exec c s = .next (s.quiet.takeCommand via code body))
    (hb : body (s.taken via code) = (s.taken via code).respond via result data) :
    ∃ t, exec c s = .next t ∧ Answered s via result data t ∧
      t.events = (s.acceptWrite via).events ∧ UnchangedBut [.engine, .events] s t := by
  rw [takeCommand_of_taken s via code body hs] at hc
  refine ⟨_, hc, ?_⟩
  rw [show body ((s.acceptWrite via).quiet.bus _) = _ from hb]
  have answered : UnchangedBut [.engine] (s.taken via code)
      ((s.taken via code).respond via result data) := by
    rw [unchangedBut_iff]
    simp
  refine ⟨?_, rfl, ((unchangedBut_taken s via code).trans answered).mono (by decide)⟩
  unfold Answered
  rw [State.respond_engine, taken_engine]
  cases via <;> rfl

/-- The store is as it was when its state is asked for. -/
theorem taken_storeState (s : State) (via : Via) (code : Byte) :
    (s.taken via code).store.state = s.store.state := by
  simp [State.taken]

/-- R130: SWEEP asks for its status read and keeps the geometry in force. -/
theorem exec_sweep_asks (p : SweepParams) {s : State} (hs : s.refusesWrite .unit = false) :
    ∃ t, exec (.sweep p) s = .next t ∧
      t.engine = ⟨some ⟨0x25, .unit, some ⟨.starting p s.table.geometry, false⟩⟩,
        (s.acceptWrite .unit).engine.answer, .none⟩ ∧
      t.arbiter = { s.arbiter with engine := some .statusRead }.granted s.access.level ∧
      t.events = (s.acceptWrite .unit).events ∧ UnchangedBut [.engine, .arbiter, .events] s t := by
  have hc : exec (.sweep p) s = .next ((s.taken .unit 0x25).startSweep p) :=
    congrArg Host.Outcome.next (takeCommand_of_taken s .unit 0x25 (State.startSweep p) hs)
  have asked : UnchangedBut [.engine, .arbiter] (s.taken .unit 0x25)
      ((s.taken .unit 0x25).startSweep p) := by
    rw [unchangedBut_iff]
    simp [State.startSweep, State.askEngine_eq]
  refine ⟨_, hc, ?_, ?_, rfl, ((unchangedBut_taken s .unit 0x25).trans asked).mono (by decide)⟩
  · show Engine.mk
      (some ⟨0x25, .unit, some ⟨.starting p (s.taken .unit 0x25).table.geometry, false⟩⟩)
      (s.taken .unit 0x25).engine.answer (s.taken .unit 0x25).engine.write = _
    rw [taken_engine]
    simp [State.taken]
  · simp [State.startSweep, State.askEngine_eq, State.taken]

/-- Settles O34: each command is a table command, or is answered at once. -/
theorem commandAsksOrIsRefused : Obligations.CommandAsksOrIsRefused := by
  refine ⟨fun s hs c code r hcase => ?_, fun p s hs => exec_sweep_asks p hs,
    fun s hs => ⟨fun rows cols hrows => ?_, fun busy => ?_⟩, fun via s hs busy => ?_⟩
  · obtain ⟨i, rfl, rfl, rfl⟩ | ⟨sel, i, rfl, rfl, rfl⟩ | ⟨row, col, rfl, rfl, rfl⟩ |
      ⟨row, col, rfl, rfl, rfl⟩ | ⟨row, col, rfl, rfl, rfl⟩ | ⟨rfl, rfl, rfl⟩ |
      ⟨rows, cols, rfl, hrows, rfl, rfl⟩ | ⟨rfl, idle, rfl, rfl⟩ := hcase
    case inr.inr.inr.inr.inr.inr.inl =>
      exact exec_asks hs rfl (if_neg (Nat.not_lt.mpr hrows))
    case inr.inr.inr.inr.inr.inr.inr =>
      exact exec_asks hs rfl (if_pos ((taken_storeState s .unit 0x31).trans idle))
    all_goals exact exec_asks hs rfl rfl
  · exact exec_answers hs rfl (if_pos hrows)
  · exact exec_answers hs rfl (if_neg (taken_storeState s .unit 0x31 ▸ busy))
  · exact exec_answers hs rfl (if_neg (taken_storeState s via 0x08 ▸ busy))

/-! ## Answers to the command in hand -/

/-- R177: the answer to a unit command in hand. -/
theorem handAnswered_respondHand {s u : State} {job : Job} (engine : u.engine = s.engine)
    (hand : s.engine.hand = some job) (unit : job.via = .unit) (code : ResultCode)
    (data : List Byte) : HandAnswered s code data (u.respondHand code data) := by
  unfold HandAnswered
  rw [u.respondHand_of_hand job code data (engine ▸ hand), unit, State.respond_engine, engine]

theorem unchangedBut_respondHand (s : State) (code : ResultCode) (data : List Byte) :
    UnchangedBut [.engine] s (s.respondHand code data) := by
  rw [unchangedBut_iff]
  unfold State.respondHand
  split <;> simp

theorem respondHand_arbiter (s : State) (code : ResultCode) (data : List Byte) :
    (s.respondHand code data).arbiter = s.arbiter := by
  unfold State.respondHand; split <;> rfl

theorem respondHand_monitor (s : State) (code : ResultCode) (data : List Byte) :
    (s.respondHand code data).monitor = s.monitor := by
  unfold State.respondHand; split <;> rfl

/-- R20: an operation of the engine's, complete. -/
theorem unchangedBut_complete (s : State) (c : Client) (t : Table) :
    UnchangedBut [.table, .arbiter] s (s.quiet.complete c t) := by
  rw [unchangedBut_iff]
  simp

/-- An operation that leaves the table leaves all but the arbiter. -/
theorem unchangedBut_complete_same (s : State) (c : Client) :
    UnchangedBut [.arbiter] s (s.quiet.complete c s.table) := by
  rw [unchangedBut_iff]
  simp

/-! ## The geometry change (R3, R84) -/

/-- R84: with no request overdue, a request to empty the suspect list empties it at rest and waits otherwise, and touches nothing else. -/
theorem askOfMonitor_emptyList {s : State} (h : s.monitor.nothingOverdue) :
    s.askOfMonitor .emptyList = s.withMonitor
      (if s.monitor.atRest then { s.monitor with suspects := [] }
        else { s.monitor with waiting := s.monitor.waiting ++ [.emptyList] }) := by
  unfold State.askOfMonitor
  dsimp only
  split
  · rename_i rest
    simp [State.stepPoint, State.takeAsk, State.withMonitor, h rest]
  · rfl

/-- The completion of a geometry change, with its outcome still to be acted on. -/
theorem exec_geometryChange {s : State} {g : Geometry}
    (hop : s.arbiter.engineOp = some (.geometryChange g)) :
    exec .geometryChange s =
      .next ((s.quiet.complete .engine (s.table.changeGeometry g).1).geometryAnswered
        s.table.geometry g (s.table.changeGeometry g).2) := by
  show execGeometryChange s = _
  unfold execGeometryChange
  rw [hop]

/-- R3: the table is not READY or not empty, and NOT_EMPTY is answered. -/
theorem exec_geometryChange_refused {s : State} {g : Geometry}
    (hop : s.arbiter.engineOp = some (.geometryChange g))
    (h : ¬ (s.table.state = .ready ∧ s.table.records = [])) :
    exec .geometryChange s =
      .next ((s.quiet.complete .engine s.table).respondHand .notEmpty []) := by
  rw [exec_geometryChange hop,
    show s.table.changeGeometry g = (s.table, false) from if_neg h]
  rfl

/-- R3: the geometry takes the new counts, and a change of it asks for an empty suspect list. -/
theorem exec_geometryChange_made {s : State} {g : Geometry}
    (hop : s.arbiter.engineOp = some (.geometryChange g))
    (h : s.table.state = .ready ∧ s.table.records = []) :
    exec .geometryChange s = .next
      (if s.table.geometry = g then
        (s.quiet.complete .engine { s.table with geometry := g }).respondHand .ok (geometryBytes g)
      else ((s.quiet.complete .engine { s.table with geometry := g }).respondHand .ok
        (geometryBytes g)).askOfMonitor .emptyList) := by
  rw [exec_geometryChange hop,
    show s.table.changeGeometry g = ({ s.table with geometry := g }, true) from if_pos h]
  rfl

/-- What the engine has done once its operation is complete and its command answered. -/
theorem completed_respondHand (s : State) (t : Table) (code : ResultCode) (data : List Byte) :
    Completed s .engine ((s.quiet.complete .engine t).respondHand code data) ∧
      UnchangedBut [.table, .arbiter, .engine] s
        ((s.quiet.complete .engine t).respondHand code data) ∧
      ((s.quiet.complete .engine t).respondHand code data).table = t ∧
      ((s.quiet.complete .engine t).respondHand code data).monitor = s.monitor :=
  ⟨respondHand_arbiter _ code data,
    (unchangedBut_complete s .engine t).trans (unchangedBut_respondHand _ code data),
    (State.respondHand_keeps _ code data).table, respondHand_monitor _ code data⟩

/-- Settles O42: the change is made exactly on a READY and empty table, and only a change clears the suspects. -/
theorem geometryChangeNeedsAnEmptyTable : Obligations.GeometryChangeNeedsAnEmptyTable := by
  intro s g job hop hand unit overdue
  have answered := fun x code data => handAnswered_respondHand
    (u := s.quiet.complete .engine x) (s := s) rfl hand unit code data
  by_cases empty : s.table.state = .ready ∧ s.table.records = []
  · obtain ⟨complete, frame, table, monitor⟩ :=
      completed_respondHand s { s.table with geometry := g } .ok (geometryBytes g)
    refine ⟨_, exec_geometryChange_made hop empty, ?_⟩
    by_cases same : s.table.geometry = g
    · rw [if_pos same]
      exact ⟨complete, frame.mono (by decide), fun _ => ⟨table, answered _ _ _, fun _ => monitor,
        fun differ => absurd same differ⟩, fun h => absurd empty h⟩
    · rw [if_neg same, askOfMonitor_emptyList (monitor ▸ overdue), monitor]
      have asked := fun t m => (unchangedBut_iff [.monitor] t (t.withMonitor m)).mpr (by simp)
      refine ⟨complete, (frame.trans (asked _ _)).mono (by decide), fun _ => ⟨table,
        answered _ _ _, fun h => absurd h same, fun _ => ⟨fun rest => if_pos rest, fun busy => ?_⟩⟩,
        fun h => absurd empty h⟩
      exact if_neg (by simp [busy])
  · obtain ⟨complete, frame, table, monitor⟩ := completed_respondHand s s.table .notEmpty []
    exact ⟨_, exec_geometryChange_refused hop empty, complete, frame.mono (by decide),
      fun h => absurd h empty, fun _ => ⟨table, answered _ _ _, monitor⟩⟩

/-! ## The start of a sweep (R130, R136) -/

/-- R130: the persistent actions by their codes. -/
theorem isPersistentSweep_iff (p : SweepParams) :
    isPersistentSweep p = true ↔ p.action.toNat ∈ [0, 1, 2, 4] := by
  unfold isPersistentSweep sweepActionOf
  split <;> simp_all [SweepAction.persistent]

/-- R131: a context before its first step. -/
theorem sweepAnswer_start (f : SweepFilter) (a : SweepAction) (v : Word16) (limit : Nat)
    (g : Word32) :
    sweepAnswer (.start f a v limit g) .abort = be32 g ++ [2, 0, 0, 0, 0, 0, 0, 0, 0, 0] := by
  simp [sweepAnswer, SweepContext.start, StopReason.code, be16, byte, keyBytes]

/-- R130: the checks read the table and the store. -/
theorem sweepChecks_congr {s u : State} (table : u.table = s.table) (store : u.store = s.store)
    (p : SweepParams) (g : Geometry) : u.sweepChecks p g = s.sweepChecks p g := by
  unfold State.sweepChecks
  rw [table, store]

/-- R130: a store or a table that is busy for this sweep. -/
theorem sweepChecks_busy {s : State} {p : SweepParams} (g : Geometry)
    (h : s.table.state = .loading ∨ s.store.state = .loading ∨
      (p.action.toNat ∈ [0, 1, 2, 4] ∧ s.store.state ≠ .idle)) :
    s.sweepChecks p g = .error .storeBusy := by
  rw [← isPersistentSweep_iff] at h
  unfold State.sweepChecks
  split
  · rfl
  · rename_i hload
    exact if_pos ((or_assoc.mpr h).resolve_left hload)

section
variable {s : State} {p : SweepParams} (g : Geometry) (table : s.table.state = .ready)
  (store : s.store.state ≠ .loading)
  (persistent : ¬ (p.action.toNat ∈ [0, 1, 2, 4] ∧ s.store.state ≠ .idle))
include table store persistent

/-- R130: with nothing busy the fields are tested. -/
theorem sweepChecks_badField (hf : sweepFields p = none) :
    s.sweepChecks p g = .error .badField := by
  rw [← isPersistentSweep_iff] at persistent
  unfold State.sweepChecks
  rw [if_neg (by simp [table, store]), if_neg persistent, hf]

/-- R130: with nothing busy and good fields the row range is tested. -/
theorem sweepChecks_fields {f : SweepFilter} {a : SweepAction} {limit : Nat}
    (hf : sweepFields p = some (f, a, limit)) :
    s.sweepChecks p g =
      if g.rows ≤ f.firstRow ∨ g.rows ≤ f.lastRow then .error .outOfRange
      else .ok (.start f a p.actionValue limit s.table.generation) := by
  rw [← isPersistentSweep_iff] at persistent
  unfold State.sweepChecks
  rw [if_neg (by simp [table, store]), if_neg persistent, hf]

end

/-- R130: a check that fails is answered with the generation number. -/
theorem sweepStarted_of_error {s : State} {p : SweepParams} {g : Geometry} {code : ResultCode}
    (h : s.sweepChecks p g = .error code) (mark : Bool) :
    s.sweepStarted p g mark = s.respondHand code (be32 s.table.generation) := by
  unfold State.sweepStarted
  rw [h]

/-- R136: the abort mark ends a sweep that has examined nothing. -/
theorem sweepStarted_of_ok {s : State} {p : SweepParams} {g : Geometry} {c : SweepContext}
    (h : s.sweepChecks p g = .ok c) (mark : Bool) :
    s.sweepStarted p g mark = if mark then s.endSweep c .abort else s.askSweepStep c := by
  unfold State.sweepStarted
  rw [h]

/-- R132: a step asked for touches the engine and the arbiter. -/
theorem unchangedBut_askSweepStep (s : State) (c : SweepContext) :
    UnchangedBut [.engine, .arbiter] s (s.askSweepStep c) := by
  rw [unchangedBut_iff]
  unfold State.askSweepStep
  split <;> simp [State.askEngine_eq]

theorem unchangedBut_sweepStarted (s : State) (p : SweepParams) (g : Geometry) (mark : Bool) :
    UnchangedBut [.engine, .arbiter] s (s.sweepStarted p g mark) := by
  have answered := fun code data => (unchangedBut_respondHand s code data).mono
    (cs := [.engine, .arbiter]) (by decide)
  unfold State.sweepStarted
  split
  · exact answered _ _
  · split
    · exact answered _ _
    · exact unchangedBut_askSweepStep s _

/-- R130: the status read of a sweep's start, with the checks still to be made. -/
theorem exec_statusRead_of_starting {s : State} {p : SweepParams} {g : Geometry} {mark : Bool}
    (hop : s.arbiter.engineOp = some .statusRead)
    (hand : s.engine.hand = some ⟨0x25, .unit, some ⟨.starting p g, mark⟩⟩) :
    exec .statusRead s = .next ((s.quiet.complete .engine s.table).sweepStarted p g mark) := by
  show execStatusRead s = _
  unfold execStatusRead
  rw [hop]
  dsimp only
  unfold State.statusAnswered
  rw [show (s.quiet.complete .engine s.table).engine.hand = _ from hand]

/-- Settles O44: the first check that fails answers; with all passed the abort mark decides. -/
theorem sweepStartChecks : Obligations.SweepStartChecks := by
  intro s p g mark hop hand
  have answered := fun code data => handAnswered_respondHand
    (u := s.quiet.complete .engine s.table) (s := s) rfl hand rfl code data
  have same : (s.quiet.complete .engine s.table).sweepChecks p g = s.sweepChecks p g :=
    sweepChecks_congr rfl rfl p g
  have refused : ∀ code, s.sweepChecks p g = .error code →
      HandAnswered s code (be32 s.table.generation)
        ((s.quiet.complete .engine s.table).sweepStarted p g mark) ∧
      Completed s .engine ((s.quiet.complete .engine s.table).sweepStarted p g mark) := by
    intro code h
    rw [sweepStarted_of_error (same.trans h)]
    exact ⟨answered _ _, (completed_respondHand s s.table _ _).1⟩
  refine ⟨_, exec_statusRead_of_starting hop hand,
    ((unchangedBut_complete_same s .engine).trans (unchangedBut_sweepStarted _ p g mark)).mono
      (by decide), fun busy => refused _ (sweepChecks_busy g busy),
    fun table store persistent => ⟨fun hf =>
      refused _ (sweepChecks_badField g table store persistent hf), fun f a limit hf => ?_⟩⟩
  have checks := sweepChecks_fields g table store persistent hf
  refine ⟨fun outside => refused _ (checks.trans (if_pos (by omega))), fun last first => ?_⟩
  rw [sweepStarted_of_ok (same.trans (checks.trans (if_neg (by omega))))]
  refine ⟨fun marked => ?_, fun unmarked => ?_⟩
  · rw [if_pos marked, ← sweepAnswer_start f a p.actionValue limit]
    exact ⟨answered _ _, (completed_respondHand s s.table _ _).1⟩
  · rw [if_neg (Bool.eq_false_iff.mp unmarked)]
    unfold State.askSweepStep
    rw [show (s.quiet.complete .engine s.table).engine.hand = _ from hand]
    exact ⟨rfl, by simp [State.askEngine_eq, SweepContext.start]⟩

end Sys2Proof.Machine
end

section
/-! PROOFS. The record operations of the table controller, each as one kind of edit (R17 to R29): what an edit leaves, and the invariants that follow from it (R17, R36). -/
namespace Sys2Proof.Machine

/-! ## Edits -/

/-- R17 to R29: what an operation on the records of one key does to the table: nothing, a change of that record's volatile fields, or, where `may` holds, a change of persistent content, with which the generation number advances (R33). -/
inductive Table.Edit (may : Prop) (k : Key) (t : Table) : Table → Prop where
  | same : Edit may k t t
  | volatile {r r' : Record} (mem : r ∈ t.records) (key : r.pers.key = k)
      (pers : r'.pers = r.pers) : Edit may k t (t.put r')
  | persistent {r r' : Record} (mem : r ∈ t.records) (key : r.pers.key = k)
      (key' : r'.pers.key = k) (h : may) : Edit may k t (t.put r').advance
  | joined {p : Persistent} (key : p.key = k) (inside : t.geometry.contains p.key)
      (absent : t.find p.key = none) (room : t.full = false) (h : may) :
      Edit may k t (t.join p).advance
  | left (h : may) : Edit may k t (t.leave k).advance

section
variable {may : Prop} {k : Key} {t t' : Table}

/-- An edit leaves the table state, the save hold and the geometry. -/
theorem Table.Edit.frame (h : t.Edit may k t') :
    t'.state = t.state ∧ t'.saveHold = t.saveHold ∧ t'.geometry = t.geometry := by
  cases h <;> exact ⟨rfl, rfl, rfl⟩

theorem Table.othersKept_put (t : Table) {r : Record} (key : r.pers.key = k) :
    OthersKept k t (t.put r) := fun _ hk => findKey_putRecord_other _ (by rwa [key])

theorem Table.othersKept_join (t : Table) {p : Persistent} (key : p.key = k) :
    OthersKept k t (t.join p) := fun _ hk => findKey_insertSorted_other _ (by rwa [key])

theorem Table.othersKept_leave (t : Table) (k : Key) : OthersKept k t (t.leave k) :=
  fun _ hk => findKey_removeKey_other _ hk

/-- An edit leaves the records of all other keys. -/
theorem Table.Edit.othersKept (h : t.Edit may k t') : OthersKept k t t' := by
  cases h with
  | same => exact fun _ _ => rfl
  | volatile mem key pers =>
    exact t.othersKept_put ((congrArg Persistent.key pers).trans key)
  | persistent mem key key' _ => exact t.othersKept_put key'
  | joined key inside absent room _ => exact t.othersKept_join key
  | left _ => exact t.othersKept_leave k

/-- A record put in the place of one of the table keeps the laws of R17. -/
theorem Table.lawful_put {r r' : Record} (ht : t.lawful) (mem : r ∈ t.records)
    (key : r'.pers.key = r.pers.key) : (t.put r').lawful := by
  obtain ⟨ordered, size, inside⟩ := ht
  refine ⟨putRecord_ordered ordered, (putRecord_length _ _).trans_le size, fun x hx => ?_⟩
  obtain ⟨y, hy, rfl⟩ := List.mem_map.mp hx
  split
  · exact key ▸ inside r mem
  · exact inside y hy

/-- A record of a new key inside the geometry may join a table that is not full. -/
theorem Table.lawful_join {p : Persistent} (ht : t.lawful) (inside : t.geometry.contains p.key)
    (absent : t.find p.key = none) (room : t.full = false) : (t.join p).lawful := by
  obtain ⟨ordered, size, others⟩ := ht
  refine ⟨insertSorted_ordered ordered absent, ?_, fun x hx => ?_⟩
  · have room := of_decide_eq_false room
    show (insertSorted _ _).length ≤ _
    rw [insertSorted_length]
    omega
  · rcases mem_insertSorted hx with rfl | hx
    · exact inside
    · exact others x hx

theorem Table.lawful_leave (k : Key) (ht : t.lawful) : (t.leave k).lawful := by
  obtain ⟨ordered, size, inside⟩ := ht
  exact ⟨removeKey_ordered ordered, (List.length_filter_le _ _).trans size,
    fun x hx => inside x (List.mem_of_mem_filter hx)⟩

/-- R17: an empty table is lawful in every geometry. -/
theorem Table.lawful_of_empty (h : t.records = []) : t.lawful := by
  unfold Table.lawful
  rw [h]
  exact ⟨.nil, Nat.zero_le _, fun _ hr => absurd hr List.not_mem_nil⟩

/-- R17: an edit keeps raster order without equal keys, the capacity and the geometry. -/
theorem Table.Edit.lawful (h : t.Edit may k t') (ht : t.lawful) : t'.lawful := by
  cases h with
  | same => exact ht
  | volatile mem key pers => exact Table.lawful_put ht mem (congrArg Persistent.key pers)
  | persistent mem key key' _ => exact Table.lawful_put ht mem (key'.trans key.symm)
  | joined key inside absent room _ => exact Table.lawful_join ht inside absent room
  | left _ => exact Table.lawful_leave k ht

/-- In a lawful table a put that keeps a record's persistent fields keeps all persistent fields. -/
theorem Table.put_persistent {r r' : Record} (ht : t.lawful) (mem : r ∈ t.records)
    (pers : r'.pers = r.pers) :
    (t.put r').records.map Record.pers = t.records.map Record.pers := by
  show (t.records.map _).map Record.pers = _
  rw [List.map_map]
  refine List.map_congr_left fun x hx => ?_
  show (if x.pers.key = r'.pers.key then r' else x).pers = x.pers
  split
  · rename_i key
    have hx := findKey_of_mem ht.1 hx
    rw [key, pers, findKey_of_mem ht.1 mem] at hx
    exact pers.trans (congrArg Record.pers (Option.some.inj hx))
  · rfl

/-- R36: an edit that may not change persistent content changes none, nor the generation number. -/
theorem Table.Edit.persistentKept (h : t.Edit may k t') (ht : t.lawful) (frozen : ¬ may) :
    t'.records.map Record.pers = t.records.map Record.pers ∧ t'.generation = t.generation := by
  cases h with
  | same => exact ⟨rfl, rfl⟩
  | volatile mem key pers => exact ⟨Table.put_persistent ht mem pers, rfl⟩
  | persistent _ _ _ may => exact absurd may frozen
  | joined _ _ _ _ may => exact absurd may frozen
  | left may => exact absurd may frozen

end

/-! ## The operations as edits -/

/-- What a search by key finds is a record of the table with that key. -/
theorem Table.mem_of_find {t : Table} {k : Key} {r : Record} (h : t.find k = some r) :
    r ∈ t.records ∧ r.pers.key = k := ⟨List.mem_of_find?_eq_some h, key_of_findKey h⟩

/-- R108: a table that is not busy has no save hold. -/
theorem Table.unheld_of_not_busy {t : Table} (h : ¬ t.busy = true) : t.saveHold = false := by
  simp only [Table.busy, Bool.or_eq_true, not_or, Bool.not_eq_true] at h
  exact h.2

theorem Table.edit_insert (t : Table) (level : AccessLevel) (i : RecordImage) :
    ∃ k, t.Edit (t.saveHold = false) k (t.insert level i).1 := by
  unfold Table.insert
  split
  · exact ⟨⟨0, 0⟩, .same⟩
  · rename_i idle
    split
    · exact ⟨⟨0, 0⟩, .same⟩
    · rename_i p _
      refine ⟨p.key, ?_⟩
      split
      · exact .same
      · rename_i inside
        split
        · exact .same
        · split
          · exact .same
          · rename_i absent
            split
            · exact .same
            · rename_i room
              exact .joined rfl (not_not.mp inside) (Option.not_isSome_iff_eq_none.mp absent)
                (Bool.eq_false_iff.mpr room) (Table.unheld_of_not_busy idle)

theorem AmendFields.apply_key (a : AmendFields) (p : Persistent) : (a.apply p).key = p.key := by
  unfold AmendFields.apply; split <;> rfl

theorem Table.edit_amend (t : Table) (level : AccessLevel) (sel : Byte) (i : RecordImage) :
    t.Edit (t.saveHold = false) (keyOf i.row i.col) (t.amend level sel i).1 := by
  unfold Table.amend
  split
  · exact .same
  · rename_i idle
    split
    · exact .same
    · rename_i a _
      split
      · exact .same
      · split
        · exact .same
        · rename_i r found
          obtain ⟨mem, key⟩ := Table.mem_of_find found
          repeat' split
          · exact .same
          · exact .same
          · exact .persistent mem key ((a.apply_key _).trans key) (Table.unheld_of_not_busy idle)

theorem Table.edit_remove (t : Table) (level : AccessLevel) (row col : Byte) :
    t.Edit (t.saveHold = false) (keyOf row col) (t.remove level row col).1 := by
  unfold Table.remove
  split
  · exact .same
  · rename_i idle
    repeat' split
    · exact .same
    · exact .same
    · exact .same
    · exact .left (Table.unheld_of_not_busy idle)

theorem Record.extend_key (r : Record) (c : Colour) : (r.extend c).pers.key = r.pers.key := by
  cases c <;> rfl

theorem Table.edit_countOn {t : Table} {key : Key} {r : Record} (found : t.find key = some r)
    (c : Colour) (k : FaultKind) (f : FrameNo) :
    t.Edit (t.saveHold = false) key (t.countOn r c k f).1 := by
  obtain ⟨mem, key⟩ := Table.mem_of_find found
  unfold Table.countOn
  dsimp only
  split
  · exact .volatile mem key rfl
  · split
    · exact .volatile mem key rfl
    · split
      · exact .volatile mem key rfl
      · rename_i unheld
        exact .persistent mem key ((Record.extend_key _ c).trans key) (Bool.eq_false_iff.mpr unheld)

theorem Table.edit_faultUpdate (t : Table) (key : Key) (c : Colour) (k : FaultKind)
    (f : FrameNo) : t.Edit (t.saveHold = false) key (t.faultUpdate key c k f).1 := by
  unfold Table.faultUpdate
  split
  · exact .same
  · split
    · exact .same
    · rename_i r found
      exact Table.edit_countOn found c k f

theorem Persistent.promoted_key (key : Key) (c : Colour) :
    (Persistent.promoted key c).key = key := by
  cases c <;> rfl

theorem Table.edit_promote (t : Table) (key : Key) (c : Colour) (k : FaultKind) (f : FrameNo) :
    t.Edit (t.saveHold = false) key (t.promote key c k f).1 := by
  unfold Table.promote
  split
  · exact .same
  · split
    · exact .same
    · rename_i inside
      split
      · rename_i r found
        exact Table.edit_countOn found c k f
      · rename_i absent
        split
        · exact .same
        · rename_i unheld
          split
          · exact .same
          · rename_i room
            have key := Persistent.promoted_key key c
            exact .joined key (key.symm ▸ not_not.mp inside) (key.symm ▸ absent)
              (Bool.eq_false_iff.mpr room) (Bool.eq_false_iff.mpr unheld)

/-- R21: what a find for the walker gives is what the search by key gives. -/
theorem Table.find_of_walkerFind {t : Table} {k : Key} {r : Record}
    (h : t.walkerFind k = some r) : t.find k = some r := by
  unfold Table.walkerFind at h
  split at h
  · cases h
  · exact h

theorem Table.edit_stamp (t : Table) (key : Key) (f : FrameNo) (cs : List Colour) :
    t.Edit (t.saveHold = false) key (t.stamp key f cs) := by
  unfold Table.stamp
  split
  · exact .same
  · rename_i r found
    obtain ⟨mem, key⟩ := Table.mem_of_find (Table.find_of_walkerFind found)
    split
    · exact .volatile mem key rfl
    · exact .same

/-- R28: the record a sweep step examines is one of the table. -/
theorem Table.mem_of_sweepCandidate {t : Table} {position : Option Key} {filter : SweepFilter}
    {r : Record} (h : t.sweepCandidate position filter = some r) : r ∈ t.records := by
  unfold Table.sweepCandidate at h
  obtain ⟨found, -⟩ := Option.filter_eq_some_iff.mp h
  split at found
  · exact List.mem_of_find?_eq_some found
  · exact List.mem_of_find?_eq_some found

/-- R129: an action leaves the key, and all persistent fields unless it is a persistent one. -/
theorem SweepAction.apply_keeps {a : SweepAction} {value : Word16} {r r' : Record}
    (h : a.apply value r = some r') :
    r'.pers.key = r.pers.key ∧ (¬ a.persistent = true → r'.pers = r.pers) := by
  cases a with
  | retire => cases h
  | clearFaults => cases h; exact ⟨rfl, fun _ => rfl⟩
  | activate | makeDormant | retag => cases h; exact ⟨rfl, fun h => absurd rfl h⟩

/-- R129: only a persistent action removes a record. -/
theorem SweepAction.persistent_of_removes {a : SweepAction} {value : Word16} {r : Record}
    (h : a.apply value r = none) : a.persistent = true := by
  cases a with
  | retire => rfl
  | activate | makeDormant | clearFaults | retag => cases h

theorem Table.edit_sweepStep (t : Table) (level : AccessLevel) (position : Option Key)
    (filter : SweepFilter) (a : SweepAction) (v : Word16) :
    ∃ k, t.Edit (a.persistent = true) k (t.sweepStep level position filter a v).1 := by
  unfold Table.sweepStep
  split
  · exact ⟨⟨0, 0⟩, .same⟩
  · rename_i r candidate
    have mem := Table.mem_of_sweepCandidate candidate
    refine ⟨r.pers.key, ?_⟩
    split
    · exact .same
    · split
      · exact .same
      · split
        · rename_i removed
          exact .left (SweepAction.persistent_of_removes removed)
        · rename_i r' applied
          obtain ⟨key, pers⟩ := SweepAction.apply_keeps applied
          repeat' split
          · exact .same
          · exact .persistent mem rfl key ‹_›
          · exact .volatile mem rfl (pers ‹_›)

theorem Table.edit_healStep (t : Table) (position : Option Key) (f : FrameNo) (n : Nat) :
    ∃ k, t.Edit (t.saveHold = false) k (t.healStep position f n).1 := by
  unfold Table.healStep
  split
  · exact ⟨⟨0, 0⟩, .same⟩
  · split
    · exact ⟨⟨0, 0⟩, .same⟩
    · rename_i r candidate
      have mem : r ∈ t.records := List.mem_of_find?_eq_some candidate
      refine ⟨r.pers.key, ?_⟩
      dsimp only
      split
      · exact .volatile mem rfl rfl
      · split
        · exact .volatile mem rfl rfl
        · rename_i unheld
          exact .left (Bool.eq_false_iff.mpr unheld)

/-- R40: RESTART completes one operation of the walker or the monitor, or none. -/
theorem State.edit_tableAtRestart (s : State) :
    ∃ k, s.table.Edit (s.table.saveHold = false) k s.tableAtRestart := by
  unfold State.tableAtRestart
  split
  · split
    · exact ⟨_, Table.edit_stamp ..⟩
    all_goals exact ⟨⟨0, 0⟩, .same⟩
  · split
    · exact ⟨_, Table.edit_faultUpdate ..⟩
    · exact ⟨_, Table.edit_promote ..⟩
    · exact Table.edit_healStep ..
    all_goals exact ⟨⟨0, 0⟩, .same⟩
  all_goals exact ⟨⟨0, 0⟩, .same⟩

/-! ## The laws of R17 -/

theorem Table.lawful_changeGeometry {t : Table} (g : Geometry) (h : t.lawful) :
    (t.changeGeometry g).1.lawful := by
  unfold Table.changeGeometry
  split
  · rename_i empty
    exact Table.lawful_of_empty empty.2
  · exact h

theorem Table.lawful_loadGeometry {t : Table} (g : Geometry) (h : t.lawful) :
    (t.loadGeometry g).lawful := by
  unfold Table.loadGeometry
  split
  · exact Table.lawful_of_empty ‹_›
  · exact h

theorem Table.lawful_loadInsert {t : Table} (p : Persistent) (h : t.lawful) :
    (t.loadInsert p).1.lawful := by
  unfold Table.loadInsert
  split
  · rename_i checks
    obtain ⟨-, inside, absent, room⟩ := checks
    exact Table.lawful_join h inside (Option.isNone_iff_eq_none.mp absent) room
  · exact h

/-- R17: whatever a command does to the table, it stays lawful. -/
theorem lawful_of_tableChange {s : State} {c : Instr} {t : Table} (hs : s.table.lawful)
    (h : TableChange s c t) : t.lawful := by
  have edited : ∀ {may : Prop} {t : Table}, (∃ k, s.table.Edit may k t) → t.lawful :=
    fun ⟨_, h⟩ => h.lawful hs
  cases h with
  | same => exact hs
  | hardReset a => exact Table.lawful_of_empty rfl
  | restarted _ _ _ => exact edited s.edit_tableAtRestart
  | insert i _ => exact edited (Table.edit_insert ..)
  | promote k c f n _ => exact edited ⟨_, Table.edit_promote ..⟩
  | amend sel i _ => exact edited ⟨_, Table.edit_amend ..⟩
  | remove row col _ => exact edited ⟨_, Table.edit_remove ..⟩
  | fault k c f n _ => exact edited ⟨_, Table.edit_faultUpdate ..⟩
  | stamp k n cs _ => exact edited ⟨_, Table.edit_stamp ..⟩
  | sweep p f a v _ => exact edited (Table.edit_sweepStep ..)
  | heal p f n _ => exact edited (Table.edit_healStep ..)
  | geometry g _ => exact Table.lawful_changeGeometry g hs
  | beginSave _ => exact hs
  | endSave _ => exact hs
  | beginLoad _ => exact Table.lawful_of_empty rfl
  | loadGeometry g _ => exact Table.lawful_loadGeometry g hs
  | loadInsert p _ => exact Table.lawful_loadInsert p hs
  | endLoadSuccess g _ => exact hs
  | endLoadFailure _ => exact Table.lawful_of_empty rfl

/-- Settles O54: each way in which a command leaves the table keeps the laws of R17. -/
theorem tableStaysLawful : Obligations.TableStaysLawful := fun _ _ hs h =>
  step_keeps_of_exec (P := fun s => s.table.lawful) (fun _ _ => id)
    (fun _ _ _ hs h => lawful_of_tableChange hs (leaves_of_exec h).table) hs h

/-! ## The save hold (R36) -/

/-- With no first operation due, none is asked for. -/
theorem askBegin_of_due_none {s : State} (h : s.store.due = none) (b : BeginReq) :
    s.askBegin b = s := if_neg (by simp [h])

/-- Settles O59: under the save hold an edit may touch volatile fields only, and what is no edit is kept away by the premises. -/
theorem saveHoldFreezesTheTable : Obligations.SaveHoldFreezesTheTable := by
  intro c s t lawful held h noReset due storeOps sweeps
  have frozen : ¬ s.table.saveHold = false := by simp [held]
  have edited : ∀ {may : Prop} {x : Table}, (∃ k, s.table.Edit may k x) → ¬ may →
      x.records.map Record.pers = s.table.records.map Record.pers ∧
        x.generation = s.table.generation := fun ⟨_, h⟩ => h.persistentKept lawful
  have kept : ∀ {r : StoreReq} {P : Prop}, s.arbiter.storeOp = some r → r ≠ .endSave →
      (∀ p, r ≠ .saveRead p) → P := fun hop hend hread =>
    ((storeOps _ hop).elim hend fun ⟨p, hp⟩ => hread p hp).elim
  have change := (leaves_of_exec h).table
  generalize t.table = x at change
  cases change with
  | same => exact ⟨rfl, rfl⟩
  | hardReset a => exact absurd rfl (noReset a)
  | restarted _ _ _ => exact edited s.edit_tableAtRestart frozen
  | insert i _ => exact edited (Table.edit_insert ..) frozen
  | promote k c f n _ => exact edited ⟨_, Table.edit_promote ..⟩ frozen
  | amend sel i _ => exact edited ⟨_, Table.edit_amend ..⟩ frozen
  | remove row col _ => exact edited ⟨_, Table.edit_remove ..⟩ frozen
  | fault k c f n _ => exact edited ⟨_, Table.edit_faultUpdate ..⟩ frozen
  | stamp k n cs _ => exact edited ⟨_, Table.edit_stamp ..⟩ frozen
  | sweep p f a v hop =>
    obtain rfl := sweeps p f a v hop
    exact edited (Table.edit_sweepStep ..) (by decide)
  | heal p f n _ => exact edited (Table.edit_healStep ..) frozen
  | geometry g _ =>
    unfold Table.changeGeometry
    split <;> exact ⟨rfl, rfl⟩
  | beginSave _ => exact ⟨rfl, rfl⟩
  | endSave _ => exact ⟨rfl, rfl⟩
  | beginLoad hop =>
    rw [askBegin_of_due_none due] at hop
    exact kept hop nofun nofun
  | loadGeometry g hop => exact kept hop nofun nofun
  | loadInsert p hop => exact kept hop nofun nofun
  | endLoadSuccess g hop => exact kept hop nofun nofun
  | endLoadFailure hop => exact kept hop nofun nofun

/-! ## Reset (R39) -/

/-- Settles O60, block by block. -/
theorem resetKeepsTheLaws : Obligations.ResetKeepsTheLaws := by
  have records : State.reset.table.records = [] := rfl
  have suspects : State.reset.monitor.suspects = [] := rfl
  refine ⟨Table.lawful_of_empty records, ⟨by simp [records], Arbiter.insertValid_empty⟩, ?_,
    fun _ => rfl, (settingsLawful_iff _).mpr (.afterHardReset false _ _),
    ⟨nofun, fun _ => rfl, Nat.zero_le _⟩, ?_⟩
  · simp [Monitor.suspectsLawful, suspects]
  · exact fun c => by cases c <;> rfl

/-- Settles O3: the values after a hard reset, at either level of AUTOLOAD. -/
theorem hardResetLeavesResetValues : Obligations.HardResetLeavesResetValues := by
  refine ⟨fun autoload s => ⟨_, rfl, ?_⟩, fun autoload s => ⟨_, rfl, ?_⟩⟩
  · exact ⟨rfl, rfl, rfl, rfl, rfl, fun c => by cases c <;> rfl, rfl, rfl, rfl, rfl, rfl, rfl, rfl,
      rfl, rfl, rfl, rfl⟩
  · refine ⟨rfl, rfl, rfl, rfl, rfl, rfl, rfl, rfl, rfl, rfl, rfl, rfl, rfl, rfl, ?_, rfl, rfl, rfl,
      ?_, rfl, rfl, rfl, rfl, rfl, rfl, ?_, rfl, rfl, rfl⟩
    · cases autoload <;> rfl
    · rintro rfl
      exact ⟨_, _, rfl⟩
    · show ((0 : BitVec 14) &&& BitVec.allOnes 14 != 0) = false
      decide

end Sys2Proof.Machine
end

section
/-! PROOFS. The table operations of the walker and of the fault monitor, case by case (R23, R26, R27, R29), and RESTART, which completes one of them (R40, R183). -/
namespace Sys2Proof.Machine

/-! ## A record put in its place -/

/-- What a put leaves is found under the record's key. -/
theorem Table.find_put {t : Table} {k : Key} {r r' : Record} (found : t.find k = some r)
    (key : r'.pers.key = k) : (t.put r').find k = some r' := by
  subst key
  exact findKey_putRecord_self found

/-- A put moves neither the generation number nor a setting. -/
theorem Table.settingsKept_put (t : Table) (r : Record) : SettingsKept t (t.put r) :=
  ⟨rfl, rfl, rfl, rfl⟩

/-- In a lawful table a record is what its key finds. -/
theorem Table.find_of_mem {t : Table} {r : Record} (lawful : t.lawful) (mem : r ∈ t.records) :
    t.find r.pers.key = some r := findKey_of_mem lawful.1 mem

/-! ## The stamp (R27) -/

theorem Record.stampable_iff (r : Record) (cs : List Colour) :
    r.stampable cs = true ↔ r.pers.status = .active ∧
      ∃ c ∈ cs, (r.pers.action c).mode = .mute ∧ (r.pers.action c).auto = true := by
  simp [Record.stampable]

theorem Table.walkerFind_eq_some_iff {t : Table} {k : Key} {r : Record} :
    t.walkerFind k = some r ↔ t.state = .ready ∧ t.find k = some r := by
  unfold Table.walkerFind
  cases t.state <;> simp

theorem Table.stamp_of_stampable {t : Table} {k : Key} {r : Record} {cs : List Colour}
    (ready : t.state = .ready) (found : t.find k = some r) (h : r.stampable cs = true)
    (f : FrameNo) :
    t.stamp k f cs = t.put { r with vol := { r.vol with probeFrame := some f } } := by
  unfold Table.stamp
  rw [Table.walkerFind_eq_some_iff.mpr ⟨ready, found⟩]
  exact if_pos h

/-- R27: when a condition fails the stamp is discarded. -/
theorem Table.stamp_of_not {t : Table} {k : Key} {cs : List Colour}
    (h : ¬ (t.state = .ready ∧ ∃ r, t.find k = some r ∧ r.stampable cs = true)) (f : FrameNo) :
    t.stamp k f cs = t := by
  unfold Table.stamp
  split
  · rfl
  · rename_i r found
    obtain ⟨ready, found⟩ := Table.walkerFind_eq_some_iff.mp found
    exact if_neg fun hr => h ⟨ready, r, found, hr⟩

theorem Table.settingsKept_stamp (t : Table) (k : Key) (f : FrameNo) (cs : List Colour) :
    SettingsKept t (t.stamp k f cs) := by
  unfold Table.stamp
  repeat' split
  all_goals exact ⟨rfl, rfl, rfl, rfl⟩

/-- The completion of a stamp, with the walker still to go on. -/
theorem exec_stampProbeFrame {s : State} {k : Key} {f : FrameNo} {cs : List Colour}
    (hop : s.arbiter.walkerOp = some (.stamp k f cs)) :
    exec .stampProbeFrame s =
      .next (s.quiet.complete .walker (s.table.stamp k f cs)).emitterStamped := by
  show execStampProbeFrame s = _
  unfold execStampProbeFrame
  rw [hop]

theorem State.driveNext_walker (s : State) : s.driveNext.walker = s.walker := by
  unfold State.driveNext; split <;> rfl

theorem unchangedBut_driveNext (s : State) : UnchangedBut [.arbiter] s s.driveNext := by
  rw [unchangedBut_iff]
  unfold State.driveNext
  split <;> simp [State.askWalker_eq]

/-- R48 step 6: with no ending held and more emitters to come the walker goes on to the next. -/
theorem State.emitterStamped_of_next {s : State} (ending : s.walker.ending = none)
    (more : s.walker.position ≠ s.walker.latches.geometry.last) :
    s.emitterStamped = (s.withWalker { s.walker with
      position := s.walker.latches.geometry.after s.walker.position
      levels := s.walker.levels.drop 3 }).driveNext := by
  unfold State.emitterStamped
  rw [ending]
  exact if_neg more

/-- Settles O14: by whether the record still qualifies for the stamp. -/
theorem stampWritesTheProbeFrame : Obligations.StampWritesTheProbeFrame := by
  intro s k f cs hop
  have table := (keeps_emitterStamped (s.quiet.complete .walker (s.table.stamp k f cs))).table
  rw [State.complete_table] at table
  refine ⟨_, exec_stampProbeFrame hop, ?_⟩
  rw [table]
  refine ⟨(Table.edit_stamp ..).othersKept, s.table.settingsKept_stamp k f cs,
    fun r ready found active marked => ?_, fun fails => ?_, fun ending more => ?_⟩
  · rw [Table.stamp_of_stampable ready found ((r.stampable_iff cs).mpr ⟨active, marked⟩)]
    exact Table.find_put found ((Table.mem_of_find found).2)
  · exact Table.stamp_of_not (by simpa only [Record.stampable_iff] using fails) f
  · rw [State.emitterStamped_of_next (s := s.quiet.complete .walker _) ending more,
      State.driveNext_walker]
    refine ⟨rfl, ?_⟩
    have moved := fun u w => (unchangedBut_iff [.walker] u (u.withWalker w)).mpr (by simp)
    exact (((unchangedBut_complete s .walker _).trans (moved _ _)).trans
      (unchangedBut_driveNext _)).mono (by decide)

/-! ## The fault update (R26) -/

section
variable {t : Table} {k : Key} (c : Colour) (kind : FaultKind) (f : FrameNo)

theorem Table.faultUpdate_of_loading (loading : t.state = .loading) :
    t.faultUpdate k c kind f = (t, .loading) := by
  unfold Table.faultUpdate; rw [loading]

theorem Table.faultUpdate_of_absent (ready : t.state = .ready) (absent : t.find k = none) :
    t.faultUpdate k c kind f = (t, .none) := by
  unfold Table.faultUpdate; rw [ready, absent]

theorem Table.faultUpdate_of_found {r : Record} (ready : t.state = .ready)
    (found : t.find k = some r) : t.faultUpdate k c kind f = t.countOn r c kind f := by
  unfold Table.faultUpdate; rw [ready, found]

/-- R26: the outcome on a record present, first by its origin, then its mode, then the save hold. -/
theorem Table.countOn_outcome (t : Table) (r : Record) :
    (t.countOn r c kind f).2 =
      if r.pers.origin ≠ .detected then .notDetected
      else if (r.pers.action c).mode = .mute then .updated
      else if t.saveHold then .extensionSkipped else .extended := by
  unfold Table.countOn
  dsimp only
  repeat' split
  all_goals rfl

/-- R26 step 2: the extension, with the volatile update. -/
theorem Table.countOn_of_extends {r : Record} (detected : r.pers.origin = .detected)
    (lit : (r.pers.action c).mode ≠ .mute) (unheld : t.saveHold = false) :
    (t.countOn r c kind f).1 = (t.put ((r.countFault c kind f).extend c)).advance := by
  unfold Table.countOn
  dsimp only
  rw [if_neg (not_not.mpr detected), if_neg lit, if_neg (by simp [unheld])]

/-- R26 step 1: without an extension the volatile update is all. -/
theorem Table.countOn_of_not_extends {r : Record}
    (h : ¬ (r.pers.origin = .detected ∧ (r.pers.action c).mode ≠ .mute ∧ t.saveHold = false)) :
    (t.countOn r c kind f).1 = t.put (r.countFault c kind f) := by
  unfold Table.countOn
  dsimp only
  split
  · rfl
  · rename_i detected
    split
    · rfl
    · rename_i lit
      have held : t.saveHold = true := by
        simpa using fun unheld => h ⟨not_not.mp detected, lit, unheld⟩
      rw [if_pos held]

theorem Table.countOn_length (t : Table) (r : Record) :
    (t.countOn r c kind f).1.records.length = t.records.length := by
  unfold Table.countOn
  dsimp only
  repeat' split
  all_goals exact putRecord_length _ _

end

/-- The completion of a fault update, with its outcome still to be acted on. -/
theorem exec_faultUpdate {s : State} {k : Key} {c : Colour} {kind : FaultKind} {f : FrameNo}
    (hop : s.arbiter.monitorOp = some (.faultUpdate k c kind f)) :
    exec .faultUpdate s =
      .next ((s.quiet.complete .monitor (s.table.faultUpdate k c kind f).1).faultUpdated
        k c kind f (s.table.faultUpdate k c kind f).2) := by
  show execFaultUpdate s = _
  unfold execFaultUpdate
  rw [hop]

/-- Settles O18: by whether the record is extended. -/
theorem faultUpdateCountsAndExtends : Obligations.FaultUpdateCountsAndExtends := by
  refine ⟨fun p a => ⟨rfl, rfl, rfl⟩, fun s k c kind f hop => ⟨_, exec_faultUpdate hop, ?_⟩⟩
  rw [(inMonitor_faultUpdated ..).keeps.table, State.complete_table]
  refine ⟨fun loading => ?_, fun ready absent => ?_, fun r ready found => ?_⟩
  · rw [Table.faultUpdate_of_loading c kind f loading]
    exact ⟨rfl, rfl⟩
  · rw [Table.faultUpdate_of_absent c kind f ready absent]
    exact ⟨rfl, rfl⟩
  · have key := (Table.mem_of_find found).2
    rw [Table.faultUpdate_of_found c kind f ready found, Table.countOn_outcome]
    refine ⟨(Table.edit_countOn found ..).othersKept, Table.countOn_length c kind f _ r, ?_⟩
    by_cases h : r.pers.origin = .detected ∧ (r.pers.action c).mode ≠ .mute ∧
        s.table.saveHold = false
    · obtain ⟨detected, lit, unheld⟩ := h
      rw [Table.countOn_of_extends c kind f detected lit unheld]
      refine ⟨_, Table.find_put found ((Record.extend_key _ c).trans key), rfl, ?_⟩
      refine ⟨fun _ _ _ => ⟨rfl, ⟨rfl, rfl, rfl, rfl⟩, ?_⟩, fun _ _ held => ?_,
        fun _ mute => absurd mute lit, fun other => absurd detected other⟩
      · rw [if_neg (not_not.mpr detected), if_neg lit, if_neg (by simp [unheld])]
      · rw [unheld] at held
        cases held
    · rw [Table.countOn_of_not_extends c kind f h]
      have kept := s.table.settingsKept_put (r.countFault c kind f)
      refine ⟨_, Table.find_put found key, rfl, ?_⟩
      refine ⟨fun detected lit unheld => absurd ⟨detected, lit, unheld⟩ h,
        fun detected lit held => ⟨rfl, kept, ?_⟩, fun detected mute => ⟨rfl, kept, ?_⟩,
        fun other => ⟨rfl, kept, if_pos other⟩⟩
      · rw [if_neg (not_not.mpr detected), if_neg lit, if_pos held]
      · rw [if_neg (not_not.mpr detected), if_pos mute]

/-! ## The promotion insert (R23, R75) -/

section
variable {t : Table} {k : Key} (c : Colour) (kind : FaultKind) (f : FrameNo)

theorem Table.promote_of_loading (loading : t.state = .loading) :
    t.promote k c kind f = (t, .loading) := by
  unfold Table.promote; rw [loading]

theorem Table.promote_of_outside (ready : t.state = .ready) (outside : ¬ t.geometry.contains k) :
    t.promote k c kind f = (t, .outside) := by
  unfold Table.promote; rw [ready]; exact if_pos outside

/-- R23: the fault update of a record present. -/
theorem Table.promote_of_found {r : Record} (ready : t.state = .ready)
    (inside : t.geometry.contains k) (found : t.find k = some r) :
    t.promote k c kind f =
      ((t.faultUpdate k c kind f).1, .merged (t.faultUpdate k c kind f).2) := by
  rw [Table.faultUpdate_of_found c kind f ready found]
  unfold Table.promote
  rw [ready, found]
  exact if_neg (not_not.mpr inside)

/-- R23: with no record present, the save hold, then the capacity, then the insert. -/
theorem Table.promote_of_absent (ready : t.state = .ready) (inside : t.geometry.contains k)
    (absent : t.find k = none) :
    t.promote k c kind f =
      if t.saveHold then (t, .heldBySave)
      else if t.full then (t, .full)
      else ((t.join (.promoted k c)).advance, .inserted) := by
  unfold Table.promote
  rw [ready, absent]
  exact if_neg (not_not.mpr inside)

end

theorem Table.full_iff (t : Table) : t.full = true ↔ 512 ≤ t.records.length := decide_eq_true_iff

/-- R17: a record that joined under a key not held before is what the key finds. -/
theorem Table.find_join {t : Table} {p : Persistent} {k : Key} (key : p.key = k)
    (absent : t.find k = none) : (t.join p).find k = some ⟨p, .entry⟩ := by
  subst key
  exact findKey_insertSorted_self (r := ⟨p, .entry⟩) absent

theorem Table.join_length (t : Table) (p : Persistent) :
    (t.join p).records.length = t.records.length + 1 := insertSorted_length _ _

/-- The completion of a promotion insert, with its outcome still to be acted on. -/
theorem exec_promotionInsert {s : State} {k : Key} {c : Colour} {kind : FaultKind} {f : FrameNo}
    (hop : s.arbiter.monitorOp = some (.promote k c kind f)) :
    exec .promotionInsert s =
      .next ((s.quiet.complete .monitor (s.table.promote k c kind f).1).promotionAnswered k c
        (s.table.promote k c kind f).2) := by
  show execPromotionInsert s = _
  unfold execPromotionInsert
  rw [hop]

/-- Settles O20: the checks in their order. -/
theorem promotionInsertFilesARecord : Obligations.PromotionInsertFilesARecord := by
  intro s k c kind f hop
  refine ⟨_, exec_promotionInsert hop, ?_⟩
  rw [(inMonitor_promotionAnswered ..).keeps.table, State.complete_table]
  refine ⟨(Table.edit_promote ..).othersKept, fun loading => ?_, fun ready outside => ?_,
    fun r ready inside found => ?_, fun ready inside absent => ?_⟩
  · rw [Table.promote_of_loading c kind f loading]
    exact ⟨rfl, rfl⟩
  · rw [Table.promote_of_outside c kind f ready outside]
    exact ⟨rfl, rfl⟩
  · rw [Table.promote_of_found c kind f ready inside found]
    exact ⟨rfl, rfl⟩
  · rw [Table.promote_of_absent c kind f ready inside absent]
    refine ⟨fun held => ?_, fun unheld full => ?_, fun unheld room => ?_⟩
    · rw [if_pos held]
      exact ⟨rfl, rfl⟩
    · rw [if_neg (by simp [unheld]), if_pos (s.table.full_iff.mpr full)]
      exact ⟨rfl, rfl⟩
    · rw [if_neg (by simp [unheld]), if_neg (by rw [Table.full_iff]; omega)]
      exact ⟨rfl, Table.find_join (Persistent.promoted_key k c) absent, Table.join_length _ _,
        rfl, rfl, rfl, rfl⟩

/-! ## The heal step (R29) -/

/-- R29: the record examined, as the rule describes it. -/
theorem Table.healCandidate_eq (t : Table) (position : Option Key) (f : FrameNo) :
    t.healCandidate position f = t.records.find? (fun r =>
      aheadOf position r.pers.key ∧ r.pers.origin = .detected ∧ r.vol.probeFrame = some f) := by
  unfold Table.healCandidate
  congr 1
  funext r
  simp [Bool.and_assoc, beq_eq_decide]

section
variable {t : Table} {position : Option Key} {f : FrameNo} (n : Nat)

theorem Table.healStep_of_loading (loading : t.state = .loading) :
    t.healStep position f n = (t, .loading) := by
  unfold Table.healStep; rw [loading]

theorem Table.healStep_of_none (ready : t.state = .ready)
    (none : t.healCandidate position f = none) : t.healStep position f n = (t, .endOfPass) := by
  unfold Table.healStep; rw [ready, none]

/-- R29 step 3: at HEAL_PROBES without the save hold the record examined leaves. -/
theorem Table.healStep_of_healed {r : Record} (ready : t.state = .ready)
    (candidate : t.healCandidate position f = some r) (reached : n ≤ r.healCountAfter f)
    (unheld : t.saveHold = false) :
    t.healStep position f n = ((t.leave r.pers.key).advance, .healed r.pers.key) := by
  unfold Table.healStep
  rw [ready, candidate]
  dsimp only
  rw [if_neg (Nat.not_lt.mpr reached), if_neg (by simp [unheld])]

/-- R29 step 3: otherwise it stays with its new count. -/
theorem Table.healStep_of_stays {r : Record} (ready : t.state = .ready)
    (candidate : t.healCandidate position f = some r)
    (stays : ¬ (n ≤ r.healCountAfter f ∧ t.saveHold = false)) :
    t.healStep position f n =
      (t.put { r with vol := { r.vol with healCount := r.healCountAfter f } },
        if n ≤ r.healCountAfter f then .deferred r.pers.key else .counted r.pers.key) := by
  unfold Table.healStep
  rw [ready, candidate]
  dsimp only
  by_cases reached : n ≤ r.healCountAfter f
  · have held : t.saveHold = true := by simpa using fun unheld => stays ⟨reached, unheld⟩
    rw [if_neg (Nat.not_lt.mpr reached), if_pos held, if_pos reached]
  · rw [if_pos (Nat.not_le.mp reached), if_neg reached]

end

/-- In a lawful table one record leaves with a key that is held. -/
theorem Table.leave_length {t : Table} {k : Key} {r : Record} (lawful : t.lawful)
    (found : t.find k = some r) : (t.leave k).records.length + 1 = t.records.length :=
  removeKey_length lawful.1 found

theorem Table.find_leave (t : Table) (k : Key) : (t.leave k).find k = none :=
  findKey_removeKey_self k t.records

/-- The completion of a heal step, with its outcome still to be acted on. -/
theorem exec_healStep {s : State} {position : Option Key} {f : FrameNo} {n : Nat}
    (hop : s.arbiter.monitorOp = some (.heal position f n)) :
    exec .healStep s =
      .next ((s.quiet.complete .monitor (s.table.healStep position f n).1).healStepped
        (s.table.healStep position f n).2) := by
  show execHealStep s = _
  unfold execHealStep
  rw [hop]

/-- Settles O22: by whether the count reaches HEAL_PROBES, and by the save hold. -/
theorem healStepCountsAndRetires : Obligations.HealStepCountsAndRetires := by
  refine ⟨fun k p => ⟨rfl, decide_eq_true_iff⟩, fun s position f n hop lawful => ?_⟩
  refine ⟨_, exec_healStep hop, ?_⟩
  rw [(inMonitor_healStepped ..).keeps.table, State.complete_table, ← Table.healCandidate_eq]
  refine ⟨fun loading => ?_, fun ready => ⟨fun none => ?_, fun r candidate m hm => ?_⟩⟩
  · rw [Table.healStep_of_loading n loading]
    exact ⟨rfl, rfl⟩
  · rw [Table.healStep_of_none n ready none]
    exact ⟨rfl, rfl⟩
  · obtain rfl : m = r.healCountAfter f := hm
    have found := Table.find_of_mem lawful (List.mem_of_find?_eq_some candidate)
    by_cases healed : n ≤ r.healCountAfter f ∧ s.table.saveHold = false
    · obtain ⟨reached, unheld⟩ := healed
      rw [Table.healStep_of_healed n ready candidate reached unheld]
      exact ⟨s.table.othersKept_leave _, fun _ _ => ⟨Table.find_leave _ _,
        Table.leave_length lawful found, ⟨rfl, rfl, rfl, rfl⟩, rfl⟩,
        fun stays => absurd ⟨reached, unheld⟩ stays⟩
    · rw [Table.healStep_of_stays n ready candidate healed]
      exact ⟨s.table.othersKept_put rfl,
        fun reached unheld => absurd ⟨reached, unheld⟩ healed,
        fun _ => ⟨Table.find_put found rfl, putRecord_length _ _, s.table.settingsKept_put _, rfl⟩⟩

/-! ## RESTART (R40, R183) -/

section
variable (s : State)

theorem State.restartBlocks_table : s.restartBlocks.table = s.tableAtRestart := rfl

theorem State.restartBlocks_arbiter :
    s.restartBlocks.arbiter = s.arbiter.restarted.granted s.access.level := rfl

/-- R62: the walker is reset and a blank send begins over the geometry in force, which no completed operation moves. -/
theorem State.restartBlocks_walker :
    s.restartBlocks.walker = { s.walker.restarted with blankSend := some s.table.geometry } := by
  rw [← s.tableAtRestart_geometry]; rfl

theorem State.restartBlocks_monitor : s.restartBlocks.monitor = s.monitor.restarted := rfl

theorem State.restartBlocks_engine : s.restartBlocks.engine = .afterReset := rfl

theorem State.restartBlocks_access : s.restartBlocks.access = .afterReset := rfl

theorem State.restartBlocks_store : s.restartBlocks.store = s.store := rfl

theorem State.restartBlocks_events : s.restartBlocks.events = s.events.cleared := rfl

theorem State.restartBlocks_pins : s.restartBlocks.pins = s.pins := rfl

theorem State.restartBlocks_pending : s.restartBlocks.pending = s.pending := rfl

theorem State.restartBlocks_drive :
    s.restartBlocks.out.drive = s.out.drive ++ [.startMark] := rfl

end

/-- The operation that RESTART completes is read in the table and the arbiter. -/
theorem State.tableAtRestart_congr {s u : State} (table : u.table = s.table)
    (arbiter : u.arbiter = s.arbiter) : u.tableAtRestart = s.tableAtRestart := by
  unfold State.tableAtRestart
  rw [table, arbiter]

theorem Arbiter.walkerOp_eq_some_iff {a : Arbiter} {r : WalkerReq} :
    a.walkerOp = some r ↔ a.inProgress = some .walker ∧ a.walker = some r := by
  unfold Arbiter.walkerOp; split <;> simp_all

theorem Arbiter.monitorOp_eq_some_iff {a : Arbiter} {r : MonitorReq} :
    a.monitorOp = some r ↔ a.inProgress = some .monitor ∧ a.monitor = some r := by
  unfold Arbiter.monitorOp; split <;> simp_all

/-- R40: without an operation of the walker or the monitor in progress the table stays. -/
theorem State.tableAtRestart_of_others {s : State} (walker : s.arbiter.inProgress ≠ some .walker)
    (monitor : s.arbiter.inProgress ≠ some .monitor) : s.tableAtRestart = s.table := by
  unfold State.tableAtRestart
  split
  · exact absurd ‹_› walker
  · exact absurd ‹_› monitor
  all_goals rfl

section
variable {s : State} {k : Key} {c : Colour} {kind : FaultKind} {f : FrameNo}

theorem State.tableAtRestart_of_stamp {cs : List Colour}
    (h : s.arbiter.walkerOp = some (.stamp k f cs)) : s.tableAtRestart = s.table.stamp k f cs := by
  obtain ⟨inProgress, asked⟩ := Arbiter.walkerOp_eq_some_iff.mp h
  simp only [State.tableAtRestart, inProgress, asked]

theorem State.tableAtRestart_of_faultUpdate
    (h : s.arbiter.monitorOp = some (.faultUpdate k c kind f)) :
    s.tableAtRestart = (s.table.faultUpdate k c kind f).1 := by
  obtain ⟨inProgress, asked⟩ := Arbiter.monitorOp_eq_some_iff.mp h
  simp only [State.tableAtRestart, inProgress, asked]

theorem State.tableAtRestart_of_promote
    (h : s.arbiter.monitorOp = some (.promote k c kind f)) :
    s.tableAtRestart = (s.table.promote k c kind f).1 := by
  obtain ⟨inProgress, asked⟩ := Arbiter.monitorOp_eq_some_iff.mp h
  simp only [State.tableAtRestart, inProgress, asked]

theorem State.tableAtRestart_of_heal {position : Option Key} {n : Nat}
    (h : s.arbiter.monitorOp = some (.heal position f n)) :
    s.tableAtRestart = (s.table.healStep position f n).1 := by
  obtain ⟨inProgress, asked⟩ := Arbiter.monitorOp_eq_some_iff.mp h
  simp only [State.tableAtRestart, inProgress, asked]

end

/-- RESTART that is taken with the store IDLE. -/
theorem exec_restart {via : Via} {s : State} (hs : s.refusesWrite via = false)
    (idle : s.store.state = .idle) :
    exec (.restart via) s = .next (s.taken via 0x08).restartBlocks := by
  show Host.Outcome.next (s.quiet.takeCommand via 0x08 (State.startRestart via)) = _
  rw [takeCommand_of_taken s via 0x08 (State.startRestart via) hs]
  exact congrArg Host.Outcome.next (if_pos ((taken_storeState s via 0x08).trans idle))

/-- Nothing has been driven before a command is carried out. -/
theorem taken_drive (s : State) (via : Via) (code : Byte) : (s.taken via code).out.drive = [] := rfl

theorem taken_mask (s : State) (via : Via) (code : Byte) :
    (s.taken via code).events.mask = s.events.mask := acceptWrite_mask s via

/-- Settles O5, block by block. -/
theorem restartResetsFourBlocks : Obligations.RestartResetsFourBlocks := by
  intro via s hs idle
  obtain ⟨kept, pending⟩ := unchangedBut_taken s via 0x08
  have table : (s.taken via 0x08).table = s.table := kept .table (by decide)
  have arbiter : (s.taken via 0x08).arbiter = s.arbiter := kept .arbiter (by decide)
  have walker : (s.taken via 0x08).walker = s.walker := kept .walker (by decide)
  have monitor : (s.taken via 0x08).monitor = s.monitor := kept .monitor (by decide)
  have store : (s.taken via 0x08).store = s.store := kept .store (by decide)
  have pins : (s.taken via 0x08).pins = s.pins := kept .pins (by decide)
  obtain ⟨_, edit⟩ := s.edit_tableAtRestart
  obtain ⟨state, saveHold, geometry⟩ := edit.frame
  refine ⟨_, exec_restart hs idle, ?_⟩
  rw [State.restartBlocks_walker, State.restartBlocks_monitor, State.restartBlocks_access,
    State.restartBlocks_events, State.restartBlocks_engine, State.restartBlocks_arbiter,
    State.restartBlocks_table, State.restartBlocks_store, State.restartBlocks_pins,
    State.restartBlocks_pending, State.restartBlocks_drive,
    State.tableAtRestart_congr table arbiter, table, arbiter, walker, monitor, store, pins, pending, taken_drive]
  refine ⟨⟨rfl, rfl, rfl, rfl, rfl, rfl, rfl, rfl, rfl, rfl⟩, ⟨rfl, rfl, rfl, rfl, rfl, rfl, rfl⟩,
    rfl, ?_, rfl, rfl, ⟨?_, ?_, ?_, ?_⟩, rfl, State.tableAtRestart_of_others,
    fun _ _ _ => State.tableAtRestart_of_stamp, fun _ _ _ _ => State.tableAtRestart_of_faultUpdate,
    fun _ _ _ _ => State.tableAtRestart_of_promote, fun _ _ _ => State.tableAtRestart_of_heal,
    state, saveHold, geometry, rfl, rfl, rfl⟩
  · show Events.mk 0 (s.taken via 0x08).events.mask none none none = _
    rw [taken_mask]
  all_goals simp [Arbiter.restarted]

end Sys2Proof.Machine
end

section
/-! PROOFS. The table operations of the command engine: the remove of RETIRE (R119), the status read of STATUS (R22, R182) and the sweep step (R28, R129, R133). -/
namespace Sys2Proof.Machine

/-! ## Answers that may record a violation (R106, R109) -/

theorem unchangedBut_reportViolation (s : State) (v : Violation) :
    UnchangedBut [.access, .events] s (s.reportViolation v) := by
  rw [unchangedBut_iff]
  unfold State.reportViolation
  split <;> simp [State.raise]

/-- R153: a violation reported is recorded. -/
theorem violationRecorded_reportViolation (s : State) (v : Violation) :
    ViolationRecorded s.access s.events v (s.reportViolation v) := by
  unfold ViolationRecorded
  split <;> rename_i h
  all_goals
    refine ⟨by simp [s.reportViolation_access, h], ?_⟩
    unfold State.reportViolation
    rw [h]
    rfl

theorem respondHand_access (s : State) (code : ResultCode) (data : List Byte) :
    (s.respondHand code data).access = s.access := (s.respondHand_keeps code data).access

theorem respondHand_events (s : State) (code : ResultCode) (data : List Byte) :
    (s.respondHand code data).events = s.events := by
  unfold State.respondHand; split <;> rfl

/-- The record of a violation is read in the access block and the event flags. -/
theorem ViolationRecorded.congr {a : Access} {e : Events} {v : Violation} {t u : State}
    (h : ViolationRecorded a e v t) (access : u.access = t.access) (events : u.events = t.events) :
    ViolationRecorded a e v u := by
  unfold ViolationRecorded at *
  rwa [access, events]

section
variable (s : State) (code : Byte) (key : Key) (level : AccessLevel)

theorem answerGuarded_of_refused {c : ResultCode} (h : c ≠ .protected_) :
    s.answerGuarded code key level (.refused c) = s.respondHand c (be32 s.table.generation) :=
  if_neg fun e => h (EditOutcome.refused.inj e)

theorem answerGuarded_of_protected :
    s.answerGuarded code key level (.refused .protected_) =
      (s.reportViolation ⟨code, some key, level, .protected_⟩).respondHand .protected_
        (be32 s.table.generation) := by
  rw [← s.reportViolation_table ⟨code, some key, level, .protected_⟩]
  exact if_pos rfl

theorem answerGuarded_of_doneWith (r : Record) :
    s.answerGuarded code key level (.doneWith r) =
      s.respondHand .ok (recordAnswer s.table.generation r) := if_neg nofun

theorem unchangedBut_answerEdit (c : ResultCode) (o : EditOutcome) :
    UnchangedBut [.engine] s (s.answerEdit c o) := by
  cases o <;> exact unchangedBut_respondHand ..

theorem answerEdit_arbiter (c : ResultCode) (o : EditOutcome) :
    (s.answerEdit c o).arbiter = s.arbiter := by
  cases o <;> exact respondHand_arbiter ..

theorem unchangedBut_answerGuarded (o : EditOutcome) :
    UnchangedBut [.engine, .access, .events] s (s.answerGuarded code key level o) := by
  unfold State.answerGuarded
  split
  · exact ((unchangedBut_reportViolation s _).trans (unchangedBut_answerEdit _ _ _)).mono
      (by decide)
  · exact (unchangedBut_answerEdit s _ _).mono (by decide)

theorem answerGuarded_arbiter (o : EditOutcome) :
    (s.answerGuarded code key level o).arbiter = s.arbiter := by
  unfold State.answerGuarded
  split
  · exact (answerEdit_arbiter _ _ _).trans (s.reportViolation_arbiter _)
  · exact answerEdit_arbiter ..

end

/-! ## The remove (R25, R119) -/

section
variable {t : Table} {row col : Byte} {r : Record} (level : AccessLevel)

/-- R119: the first three checks in their order. -/
theorem Table.remove_of_refused {code : ResultCode}
    (h : code = if t.state = .loading ∨ t.saveHold = true then .storeBusy
      else if ¬ t.geometry.contains (keyOf row col) then .outOfRange
      else if t.find (keyOf row col) = none then .noRecord else .ok) (refused : code ≠ .ok) :
    t.remove level row col = (t, .refused code) := by
  have busy : t.busy = true ↔ t.state = .loading ∨ t.saveHold = true := by simp [Table.busy]
  unfold Table.remove
  simp only [busy]
  split
  · rename_i busy
    rw [h, if_pos busy]
  · rename_i idle
    rw [if_neg idle] at h
    split
    · rename_i outside
      rw [h, if_pos outside]
    · rename_i inside
      rw [if_neg inside] at h
      split
      · rename_i absent
        rw [h, if_pos absent]
      · rename_i found
        rw [if_neg (by simp [found])] at h
        exact absurd h refused

variable (ready : t.state = .ready) (unheld : t.saveHold = false)
  (inside : t.geometry.contains (keyOf row col)) (found : t.find (keyOf row col) = some r)
include ready unheld inside found

/-- R119: with the first three checks passed the protection decides. -/
theorem Table.remove_of_found :
    t.remove level row col =
      if r.pers.origin = .factory ∧ level = .operator then (t, .refused .protected_)
      else ((t.leave (keyOf row col)).advance, .doneWith r) := by
  unfold Table.remove
  rw [if_neg (by simp [Table.busy, ready, unheld]), if_neg (not_not.mpr inside), found]

end

/-- The completion of a remove, with its outcome still to be answered. -/
theorem exec_remove {s : State} {row col : Byte}
    (hop : s.arbiter.engineOp = some (.remove row col)) :
    exec .remove s =
      .next ((s.quiet.complete .engine
        (s.table.remove s.arbiter.levelAtGrant row col).1).answerGuarded 0x22
          (keyOf row col) s.arbiter.levelAtGrant
          (s.table.remove s.arbiter.levelAtGrant row col).2) := by
  show execRemove s = _
  unfold execRemove
  rw [hop]

/-- Settles O39: the checks in their order, then the removal. -/
theorem removeChecksAndTakesOut : Obligations.RemoveChecksAndTakesOut := by
  intro s row col job lawful hop hand unit
  have answered := fun u (engine : State.engine u = s.engine) code data =>
    handAnswered_respondHand engine hand unit code data
  refine ⟨_, exec_remove hop, answerGuarded_arbiter .., ((unchangedBut_complete s .engine _).trans
    (unchangedBut_answerGuarded ..)).mono (by decide), fun code hcode refused => ?_,
    fun r ready unheld inside found => ⟨fun guarded => ?_, fun allowed => ?_⟩⟩
  · have unguarded : code ≠ .protected_ := by
      rw [hcode]
      repeat' split
      all_goals decide
    rw [Table.remove_of_refused _ hcode refused, answerGuarded_of_refused _ _ _ _ unguarded]
    exact ⟨answered (s.quiet.complete .engine _) rfl _ _, (State.respondHand_keeps _ _ _).table,
      respondHand_access .., respondHand_events ..⟩
  · rw [Table.remove_of_found _ ready unheld inside found, if_pos guarded,
      answerGuarded_of_protected]
    exact ⟨answered _ ((s.quiet.complete .engine s.table).reportViolation_engine _) _ _,
      (State.respondHand_keeps _ _ _).table.trans (State.reportViolation_table _ _),
      (violationRecorded_reportViolation (s.quiet.complete .engine s.table) _).congr
        (respondHand_access ..) (respondHand_events ..)⟩
  · rw [Table.remove_of_found _ ready unheld inside found, if_neg allowed,
      answerGuarded_of_doneWith, (State.respondHand_keeps _ _ _).table]
    exact ⟨answered (s.quiet.complete .engine _) rfl _ _, Table.find_leave ..,
      s.table.othersKept_leave _, Table.leave_length lawful found, ⟨rfl, rfl, rfl, rfl⟩, respondHand_access ..,
      respondHand_events ..⟩

/-! ## The status read of STATUS (R22, R182) -/

/-- The completion of a status read for STATUS. -/
theorem exec_statusRead_of_status {s : State} {job : Job}
    (hop : s.arbiter.engineOp = some .statusRead) (hand : s.engine.hand = some job)
    (status : job.sweep = none) :
    exec .statusRead s =
      .next ((s.quiet.complete .engine s.table).respondHand .ok (statusAnswer s)) := by
  show execStatusRead s = _
  unfold execStatusRead
  rw [hop]
  dsimp only
  unfold State.statusAnswered
  rw [show (s.quiet.complete .engine s.table).engine.hand = _ from hand]
  dsimp only
  rw [status]
  rfl

/-- Settles O41: the answer is read from the state in which the operation completes. -/
theorem statusReadAnswersFromOneMoment : Obligations.StatusReadAnswersFromOneMoment := by
  refine ⟨⟨rfl, rfl⟩, ⟨rfl, rfl, rfl, rfl⟩, ⟨rfl, rfl, rfl, rfl⟩, ⟨rfl, rfl, rfl⟩,
    ⟨rfl, rfl, rfl, rfl, rfl⟩, ⟨rfl, rfl⟩, fun s job hop hand unit status => ?_⟩
  refine ⟨_, exec_statusRead_of_status hop hand status, (completed_respondHand s s.table _ _).1,
    (unchangedBut_complete_same s .engine).trans (unchangedBut_respondHand ..), ?_⟩
  have pending : presence s.events.anyPending = if s.events.flags = 0 then 0 else 1 := by
    unfold presence Events.anyPending
    by_cases h : s.events.flags = 0 <;> simp [h]
  rw [← pending]
  have answered := handAnswered_respondHand (u := s.quiet.complete .engine s.table) rfl hand unit
    .ok (statusAnswer s)
  unfold statusAnswer at answered ⊢
  simp only [List.append_assoc, List.cons_append, List.nil_append] at answered ⊢
  exact answered

/-! ## The sweep step (R28, R129, R133, R134) -/

/-- R133. -/
theorem SweepFilter.accepts_iff (f : SweepFilter) (p : Persistent) :
    f.accepts p = true ↔ f.takesOrigin p.origin = true ∧ f.takesStatus p.status = true ∧
      f.firstRow ≤ p.key.row ∧ p.key.row ≤ f.lastRow ∧ (f.tag = none ∨ f.tag = some p.tag) := by
  unfold SweepFilter.accepts
  cases f.tag <;> simp [and_assoc]

/-- R129: all actions but CLEAR_FAULTS are persistent. -/
theorem SweepAction.persistent_iff (a : SweepAction) :
    a.persistent = true ↔ a ≠ .clearFaults := by
  cases a <;> decide

section
variable {t : Table} {level : AccessLevel} {position : Option Key} {f : SweepFilter}
  {a : SweepAction} {v : Word16}

theorem Table.sweepStep_of_none (none : t.sweepCandidate position f = none) :
    t.sweepStep level position f a v = (t, .endOfRange) := by
  unfold Table.sweepStep; rw [none]

variable {r r' : Record} (candidate : t.sweepCandidate position f = some r)
include candidate

theorem Table.sweepStep_of_not_accepted (h : f.accepts r.pers = false) :
    t.sweepStep level position f a v = (t, .notMatched r.pers.key) := by
  unfold Table.sweepStep
  rw [candidate]
  exact if_pos (by simp [h])

/-- R134: a FACTORY record at OPERATOR level is passed over by a persistent action. -/
theorem Table.sweepStep_of_protected (accepted : f.accepts r.pers = true)
    (h : a ≠ .clearFaults ∧ r.pers.origin = .factory ∧ level = .operator) :
    t.sweepStep level position f a v = (t, .skipped r.pers.key) := by
  rw [← a.persistent_iff] at h
  unfold Table.sweepStep
  rw [candidate]
  dsimp only
  rw [if_neg (by simp [accepted]), if_pos h]

variable (accepted : f.accepts r.pers = true)
  (allowed : ¬ (a ≠ .clearFaults ∧ r.pers.origin = .factory ∧ level = .operator))
include accepted allowed

theorem Table.sweepStep_of_removes (removes : a.apply v r = none) :
    t.sweepStep level position f a v = ((t.leave r.pers.key).advance, .changed r.pers.key) := by
  rw [← a.persistent_iff] at allowed
  unfold Table.sweepStep
  rw [candidate]
  dsimp only
  rw [if_neg (by simp [accepted]), if_neg allowed, removes]

/-- R129: what an action writes, if it changes anything. -/
theorem Table.sweepStep_of_writes (writes : a.apply v r = some r') :
    t.sweepStep level position f a v =
      if r' = r then (t, .unchanged r.pers.key)
      else if a.persistent then ((t.put r').advance, .changed r.pers.key)
      else (t.put r', .changed r.pers.key) := by
  rw [← a.persistent_iff] at allowed
  unfold Table.sweepStep
  rw [candidate]
  dsimp only
  rw [if_neg (by simp [accepted]), if_neg allowed, writes]

/-- R129, R134: what a step that writes leaves, and its outcome. -/
theorem Table.sweepStep_writes (lawful : t.lawful) (writes : a.apply v r = some r') :
    OthersKept r.pers.key t (t.sweepStep level position f a v).1 ∧
      (t.sweepStep level position f a v).1.find r.pers.key = some r' ∧
      (t.sweepStep level position f a v).1.records.length = t.records.length ∧
      (r' = r → (t.sweepStep level position f a v).2 = .unchanged r.pers.key ∧
        (t.sweepStep level position f a v).1 = t) ∧
      (r' ≠ r → (t.sweepStep level position f a v).2 = .changed r.pers.key ∧
        (a = .clearFaults → SettingsKept t (t.sweepStep level position f a v).1) ∧
        (a ≠ .clearFaults → GenerationAdvanced t (t.sweepStep level position f a v).1)) := by
  have found := Table.find_of_mem lawful (Table.mem_of_sweepCandidate candidate)
  have key := (SweepAction.apply_keeps writes).1
  rw [Table.sweepStep_of_writes candidate accepted allowed writes]
  by_cases same : r' = r
  · rw [if_pos same]
    exact ⟨fun _ _ => rfl, same ▸ found, rfl, fun _ => ⟨rfl, rfl⟩, fun differ => absurd same differ⟩
  · rw [if_neg same]
    by_cases persistent : a.persistent = true
    · rw [if_pos persistent]
      exact ⟨t.othersKept_put key, Table.find_put found key, putRecord_length _ _,
        fun h => absurd h same, fun _ => ⟨rfl,
          fun clear => absurd clear (a.persistent_iff.mp persistent),
          fun _ => ⟨rfl, rfl, rfl, rfl⟩⟩⟩
    · rw [if_neg persistent]
      exact ⟨t.othersKept_put key, Table.find_put found key, putRecord_length _ _,
        fun h => absurd h same, fun _ => ⟨rfl, fun _ => t.settingsKept_put r',
          fun h => absurd (a.persistent_iff.mpr h) persistent⟩⟩

end

/-- Settles O45: by the record ahead, the filter, the protection and the action. -/
theorem sweepStepActsOnOneRecord : Obligations.SweepStepActsOnOneRecord := by
  refine ⟨fun f p => f.accepts_iff p, fun t level position f a v lawful candidate hcandidate => ?_⟩
  have ahead : t.sweepCandidate position f =
      candidate.filter fun r => r.pers.key.row ≤ f.lastRow := by
    rw [hcandidate]
    cases position <;> rfl
  refine ⟨fun ended => Table.sweepStep_of_none ?_, fun r hr inRange => ?_⟩
  · rw [ahead]
    obtain rfl | ⟨r, rfl, beyond⟩ := ended
    · rfl
    · exact if_neg (by simpa using beyond)
  have mem : r ∈ t.records := List.mem_of_find?_eq_some (hcandidate.symm.trans hr)
  have found := Table.find_of_mem lawful mem
  have examined : t.sweepCandidate position f = some r := by
    rw [ahead, hr]
    exact if_pos (decide_eq_true inRange)
  refine ⟨Table.sweepStep_of_not_accepted examined, fun accepted persistent factory operator =>
    Table.sweepStep_of_protected examined accepted ⟨persistent, factory, operator⟩,
    fun accepted allowed t' ht' => ?_⟩
  subst ht'
  by_cases retire : a = .retire
  · rw [Table.sweepStep_of_removes examined accepted allowed (by rw [retire]; rfl)]
    exact ⟨t.othersKept_leave _, fun _ => ⟨rfl, Table.find_leave ..,
      Table.leave_length lawful found, rfl, rfl, rfl, rfl⟩, fun h => absurd retire h⟩
  · obtain ⟨x, writes⟩ : ∃ x, a.apply v r = some x := by
      cases a with
      | retire => exact absurd rfl retire
      | activate | makeDormant | clearFaults | retag => exact ⟨_, rfl⟩
    obtain ⟨others, left⟩ := Table.sweepStep_writes examined accepted allowed lawful writes
    refine ⟨others, fun h => absurd h retire, fun _ r' hr' => ?_⟩
    obtain rfl : r' = x := by
      subst hr'
      cases a with
      | retire => exact absurd rfl retire
      | activate | makeDormant | clearFaults | retag => exact Option.some.inj writes
    exact left

end Sys2Proof.Machine
end

section
/-! PROOFS. The image store's table operations: save reads and their pages (R31, R161), the frame of a load (R30, R164, R166) and the records it inserts (R32, R165). -/
namespace Sys2Proof.Machine

/-! ## What the store does next -/

section
variable (s : State)

theorem unchangedBut_setWork (w : StoreWork) : UnchangedBut [.store] s (s.setWork w) := by
  rw [unchangedBut_iff]
  simp [State.setWork]

theorem unchangedBut_beginArray (c : ArrayCommand) :
    UnchangedBut [.store] s (s.beginArray c) := by
  rw [unchangedBut_iff]
  simp [State.beginArray, State.setFlash, State.flashSend]

theorem unchangedBut_beginRead (address length : Nat) :
    UnchangedBut [.store] s (s.beginRead address length) := by
  rw [unchangedBut_iff]
  simp [State.beginRead, State.setFlash, State.flashSend]

theorem unchangedBut_poll (allowance : Nat) : UnchangedBut [.store] s (s.poll allowance) := by
  rw [unchangedBut_iff]
  simp [State.poll, State.setFlash, State.flashSend]

theorem unchangedBut_storeAsks (r : StoreReq) :
    UnchangedBut [.arbiter, .store] s (s.storeAsks r) := by
  rw [unchangedBut_iff]
  simp [State.storeAsks, State.setFlash, State.askStore_eq]

theorem storeAsks_asked (r : StoreReq) : (s.storeAsks r).arbiter.store = some r := by
  simp [State.storeAsks, State.askStore_eq]

/-- R20: with the store's operation complete the store asks for nothing. -/
theorem complete_store_asked (t : Table) : (s.complete .store t).arbiter.store = none := by
  simp [Arbiter.released]

end

/-! ## Saving (R31, R161) -/

theorem unchangedBut_saveNext (s : State) (w : SaveWork) :
    UnchangedBut [.arbiter, .store] s (s.saveNext w) := by
  have array := fun c => (unchangedBut_beginArray s c).mono (cs := [.arbiter, .store]) (by decide)
  unfold State.saveNext
  split
  · exact array _
  · split
    · exact unchangedBut_storeAsks s _
    · split
      · exact array _
      · split
        · split
          · exact (unchangedBut_iff _ s s).mpr (by simp)
          · exact array _
        · exact unchangedBut_storeAsks s _

section
variable {s : State} {w : SaveWork} (erased : w.erased = 3) (header : w.headerProgrammed = false)
include erased header

/-- R161 step 2: a page that is due is programmed at its offset. -/
theorem saveNext_of_pageDue (due : w.pageDue = true) :
    s.saveNext w = s.beginArray (.program (256 + 256 * w.pagesProgrammed) w.page) := by
  unfold State.saveNext
  rw [if_neg (by rw [erased]; decide), if_neg (by simp [header]), if_pos due]
  rfl

/-- R161 step 1: with no page due and records left the next save read is asked for. -/
theorem saveNext_of_reading (due : w.pageDue = false) (left : w.recordsEnded = false) :
    s.saveNext w = s.storeAsks (.saveRead w.position) := by
  unfold State.saveNext
  rw [if_neg (by rw [erased]; decide), if_neg (by simp [header]), if_neg (by simp [due]),
    if_neg (by simp [left])]

/-- R161 step 4: with the records ended and no page left the header is programmed. -/
theorem saveNext_of_ended {h : Header} (hw : w.header = some h) (due : w.pageDue = false)
    (ended : w.recordsEnded = true) :
    s.saveNext w = s.beginArray (.program 0 (headerBytes h w.crc)) := by
  unfold State.saveNext
  rw [if_neg (by rw [erased]; decide), if_neg (by simp [header]), if_neg (by simp [due]),
    if_pos ended, hw]

end

/-- R158: a slot has 16 bytes. -/
theorem slotBytes_length (p : Persistent) : (slotBytes p).length = 16 := rfl

/-- R161 step 2: while records are read a page is due when its last slot is filled. -/
theorem SaveWork.pageDue_afterRead_some {w : SaveWork} (left : w.recordsEnded = false)
    (p : Persistent) :
    (w.afterRead (some p)).pageDue = true ↔ 256 ≤ w.page.length + 16 := by
  simp [SaveWork.pageDue, SaveWork.afterRead, left, slotBytes_length, Config.slotsPerPage,
    Config.slotBytes]

/-- R161 step 2: once the records have ended a partly filled page is due. -/
theorem SaveWork.pageDue_afterRead_none {w : SaveWork} (short : w.page.length < 256) :
    (w.afterRead none).pageDue = true ↔ w.page ≠ [] := by
  simp [SaveWork.pageDue, SaveWork.afterRead, Nat.not_le.mpr short, Config.slotsPerPage,
    Config.slotBytes]

/-- The completion of a save read, with the store still to go on. -/
theorem exec_saveRead {s : State} {position : Option Key} {w : SaveWork} {o : Option Persistent}
    (hop : s.arbiter.storeOp = some (.saveRead position)) (work : s.store.work = .saving w)
    (read : s.table.saveRead position = o) :
    exec .saveRead s =
      .next (((s.quiet.complete .store s.table).setWork (.saving (w.afterRead o))).saveNext
        (w.afterRead o)) := by
  subst read
  show execSaveRead s = _
  unfold execSaveRead
  rw [hop, work]

/-- Settles O48: by whether a record is left, and by what the page then holds. -/
theorem saveReadFillsPages : Obligations.SaveReadFillsPages := by
  intro s position w h hop work erased hw header left short
  have idle := complete_store_asked s.quiet s.table
  have frame := fun w' => (((unchangedBut_complete_same s .store).trans
    (unchangedBut_setWork _ (.saving w'))).trans (unchangedBut_saveNext _ w')).mono
      (cs := [.arbiter, .store]) (by decide)
  cases found : s.table.records.find? (fun r => aheadOf position r.pers.key) with
  | some r =>
    have due := SaveWork.pageDue_afterRead_some left r.pers
    have read : s.table.saveRead position = some r.pers := by rw [Table.saveRead, found]; rfl
    refine ⟨_, exec_saveRead hop work read, frame _, ?_⟩
    by_cases full : 256 ≤ w.page.length + 16
    · rw [saveNext_of_pageDue (w := w.afterRead (some r.pers)) erased header (due.mpr full)]
      refine ⟨rfl, fun x hx => ?_, fun h => (Option.some_ne_none _ h).elim⟩
      obtain rfl := Option.some.inj hx
      exact ⟨rfl, fun room => absurd full (Nat.not_le.mpr room), fun _ => ⟨rfl, idle, rfl⟩⟩
    · rw [saveNext_of_reading (w := w.afterRead (some r.pers)) erased header
        (Bool.eq_false_iff.mpr fun h => full (due.mp h)) left]
      refine ⟨rfl, fun x hx => ?_, fun h => (Option.some_ne_none _ h).elim⟩
      obtain rfl := Option.some.inj hx
      exact ⟨rfl, fun _ => ⟨rfl, rfl, storeAsks_asked _ _⟩, fun h => absurd h full⟩
  | none =>
    have due := SaveWork.pageDue_afterRead_none short
    have read : s.table.saveRead position = none := by rw [Table.saveRead, found]; rfl
    refine ⟨_, exec_saveRead hop work read, frame _, ?_⟩
    by_cases empty : w.page = []
    · rw [if_pos empty, saveNext_of_ended (w := w.afterRead none) erased header hw
        (Bool.eq_false_iff.mpr fun h => due.mp h empty) rfl]
      exact ⟨rfl, fun _ hx => (Option.some_ne_none _ hx.symm).elim,
        fun _ => ⟨rfl, rfl, idle, rfl⟩⟩
    · rw [if_neg empty, saveNext_of_pageDue (w := w.afterRead none) erased header
        (due.mpr empty)]
      exact ⟨rfl, fun _ hx => (Option.some_ne_none _ hx.symm).elim,
        fun _ => ⟨rfl, rfl, idle, rfl⟩⟩

/-! ## Requests to the monitor (R68, R85) -/

/-- R68: a monitor at rest with nothing waiting takes a request at once. -/
theorem askOfMonitor_of_rest {s : State} (rest : s.monitor.atRest = true)
    (waiting : s.monitor.waiting = []) (a : MonitorAsk) : s.askOfMonitor a = s.takeAsk a := by
  have emptied : s.withMonitor { s.monitor with waiting := [] } = s := by
    rw [← waiting]; rfl
  unfold State.askOfMonitor
  dsimp only
  rw [if_pos rest]
  unfold State.stepPoint
  rw [State.withMonitor_monitor, waiting]
  exact congrArg (fun x => x.takeAsk a) emptied

/-- R68: a monitor that is not at rest lets the request wait. -/
theorem askOfMonitor_of_busy {s : State} (busy : s.monitor.atRest = false) (a : MonitorAsk) :
    s.askOfMonitor a =
      s.withMonitor { s.monitor with waiting := s.monitor.waiting ++ [a] } :=
  if_neg (by simp [busy])

theorem unchangedBut_withMonitor (s : State) (m : Monitor) :
    UnchangedBut [.monitor] s (s.withMonitor m) := by
  rw [unchangedBut_iff]; simp

/-- R164 step 3: a load that is under way polls the flash. -/
theorem afterLoadStart_of_loading {s : State} {w : LoadWork} (h : s.store.work = .loading w) :
    s.afterLoadStart = s.poll 400 := by
  unfold State.afterLoadStart
  rw [h]
  rfl

theorem unchangedBut_afterLoadStart (s : State) : UnchangedBut [.store] s s.afterLoadStart := by
  unfold State.afterLoadStart
  split
  · exact unchangedBut_poll s _
  all_goals exact (unchangedBut_iff _ s s).mpr (by simp)

/-- R166 step 4: how the store ends a load. -/
theorem afterLoadEnd_of_loading {s : State} {w : LoadWork} (h : s.store.work = .loading w) :
    s.afterLoadEnd =
      if w.ended = some true then (s.withStore ⟨.idle, .loaded, .none, none⟩).raise .storeDone
      else (s.withStore ⟨.idle, .imageBad, .none, none⟩).raise .imageBad := by
  unfold State.afterLoadEnd
  rw [h]

/-! ## The frame of a load (R30, R166) -/

/-- The completion of a begin load that was asked for before. -/
theorem exec_beginLoad {s : State} (hop : s.arbiter.storeOp = some .beginLoad)
    (due : s.store.due = none) :
    exec .beginLoad s =
      .next ((s.quiet.complete .store s.table.beginLoad).askOfMonitor .loadStart) := by
  show execBeginLoad s = _
  unfold execBeginLoad
  rw [askBegin_of_due_none (s := s.quiet) due]
  dsimp only
  rw [show s.quiet.arbiter.storeOp = _ from hop]

/-- The completion of an end load with success, with the settings still to be written. -/
theorem exec_endLoad_success {s : State} {g : Word32} {w : LoadWork} {h : Header}
    (hop : s.arbiter.storeOp = some (.endLoadSuccess g)) (work : s.store.work = .loading w)
    (header : w.header = some h) :
    exec .endLoad s =
      .next ((s.quiet.complete .store (s.table.endLoadSuccess g)).loadSucceeds w h) := by
  obtain ⟨_, hc, c, n, k, e⟩ := w
  obtain rfl := header
  show execEndLoad s = _
  unfold execEndLoad
  rw [hop, work]

/-- The completion of an end load with failure, with the settings still to be written. -/
theorem exec_endLoad_failure {s : State} {w : LoadWork}
    (hop : s.arbiter.storeOp = some .endLoadFailure) (work : s.store.work = .loading w) :
    exec .endLoad s = .next ((s.quiet.complete .store s.table.endLoadFailure).loadFails w) := by
  show execEndLoad s = _
  unfold execEndLoad
  rw [hop, work]

/-- R30, R85: begin load, by whether the monitor takes load start at once. -/
theorem beginLoad_isFramed {s : State} (hop : s.arbiter.storeOp = some .beginLoad)
    (overdue : s.monitor.nothingOverdue) (due : s.store.due = none) :
    ∃ t, exec .beginLoad s = .next t ∧
      t.table = { s.table with records := [], state := .loading, generation := 0 } ∧
      Completed s .store t ∧ UnchangedBut [.table, .arbiter, .monitor, .store] s t ∧
      (s.monitor.atRest = true →
        t.monitor = s.monitor.takeLoadStart ∧
        (∀ w, s.store.work = .loading w →
          t.store = { s.store with flash := .polling 400 } ∧ t.out.flash = [⟨[0x05], 1⟩])) ∧
      (s.monitor.atRest = false →
        t.monitor = { s.monitor with waiting := s.monitor.waiting ++ [.loadStart] } ∧
        t.store = s.store) := by
  have completed := unchangedBut_complete s .store s.table.beginLoad
  refine ⟨_, exec_beginLoad hop due, (inMonitor_askOfMonitor _ _).keeps.table, ?_⟩
  cases rest : s.monitor.atRest with
  | true =>
    rw [askOfMonitor_of_rest (s := s.quiet.complete .store _) rest (overdue rest)]
    obtain ⟨kept, pending⟩ := unchangedBut_afterLoadStart
      ((s.quiet.complete .store s.table.beginLoad).withMonitor s.monitor.takeLoadStart)
    refine ⟨kept .arbiter (by decide), ((completed.trans (unchangedBut_withMonitor _ _)).trans
      ⟨kept, pending⟩).mono (by decide), fun _ => ⟨kept .monitor (by decide), fun w hw => ?_⟩,
      nofun⟩
    have polled : (s.quiet.complete .store s.table.beginLoad).takeAsk .loadStart =
        State.poll _ 400 := afterLoadStart_of_loading hw
    rw [polled]
    exact ⟨rfl, rfl⟩
  | false =>
    rw [askOfMonitor_of_busy (s := s.quiet.complete .store _) rest]
    exact ⟨rfl, (completed.trans (unchangedBut_withMonitor _ _)).mono (by decide), nofun,
      fun _ => ⟨rfl, rfl⟩⟩

/-- R60, R166: the walker's settings written, the sequencing marked with how the load ended, and load end sent to the monitor. -/
def State.loadEnds (s : State) (w : LoadWork) (ok : Bool) (driveMax : Nat)
    (interval : ProbeInterval) (debounce healProbes : Nat) (enable : Bool) : State :=
  ((s.setDrive driveMax interval).setWork (.loading { w with ended := some ok })).askOfMonitor
    (.loadEnd debounce healProbes enable)

theorem loadSucceeds_eq (s : State) (w : LoadWork) (h : Header) :
    s.loadSucceeds w h =
      s.loadEnds w true h.driveMax h.probeInterval h.debounce h.healProbes h.enable := rfl

theorem loadFails_eq (s : State) (w : LoadWork) :
    s.loadFails w = s.loadEnds w false 4095 .every64 4 3 true := rfl

/-- R166: end load, whether with success or with failure, by whether the monitor takes load end at once. -/
theorem loadEnds_isFramed {s : State} {t : Table} {w : LoadWork} (waiting : s.monitor.waiting = [])
    (ok : Bool) (driveMax : Nat) (interval : ProbeInterval) (debounce healProbes : Nat)
    (enable : Bool) {u : State}
    (hu : u = (s.quiet.complete .store t).loadEnds w ok driveMax interval debounce healProbes
      enable) :
    u.table = t ∧ u.walker = { s.walker with driveMax := driveMax, probeInterval := interval } ∧
      Completed s .store u ∧
      UnchangedBut [.table, .arbiter, .walker, .monitor, .store, .events] s u ∧
      (s.monitor.atRest = true →
        u.monitor = s.monitor.takeLoadEnd debounce healProbes enable ∧
        u.store = ⟨.idle, if ok then .loaded else .imageBad, .none, none⟩ ∧
        u.events = s.events.raise (if ok then .storeDone else .imageBad)) ∧
      (s.monitor.atRest = false →
        u.monitor = { s.monitor with waiting := [.loadEnd debounce healProbes enable] } ∧
        u.store = { s.store with work := .loading { w with ended := some ok } } ∧
        u.events = s.events) := by
  subst hu
  unfold State.loadEnds
  generalize hv : ((s.quiet.complete .store t).setDrive driveMax interval).setWork
    (.loading { w with ended := some ok }) = v
  have monitor : v.monitor = s.monitor := by rw [← hv]; rfl
  have work : v.store.work = .loading { w with ended := some ok } := by rw [← hv]; rfl
  cases rest : s.monitor.atRest with
  | true =>
    have ended : v.takeAsk (.loadEnd debounce healProbes enable) = _ :=
      afterLoadEnd_of_loading (s := v.withMonitor _) work
    rw [askOfMonitor_of_rest (monitor ▸ rest) (monitor ▸ waiting), ended, monitor, ← hv]
    cases ok
    all_goals
      refine ⟨rfl, rfl, rfl, ?_, fun _ => ⟨rfl, rfl, rfl⟩, nofun⟩
      rw [unchangedBut_iff]
      simp [State.setWork, State.raise]
  | false =>
    rw [askOfMonitor_of_busy (monitor ▸ rest), monitor, waiting, ← hv]
    refine ⟨rfl, rfl, rfl, ?_, nofun, fun _ => ⟨rfl, rfl, rfl⟩⟩
    rw [unchangedBut_iff]
    simp [State.setWork]

/-- Settles O49: begin load, then end load with success and with failure. -/
theorem loadIsFramed : Obligations.LoadIsFramed :=
  ⟨fun _ => beginLoad_isFramed,
    fun _ _ _ _ hop work header waiting => ⟨_, exec_endLoad_success hop work header,
      loadEnds_isFramed waiting true _ _ _ _ _ (loadSucceeds_eq _ _ _)⟩,
    fun _ _ hop work waiting => ⟨_, exec_endLoad_failure hop work,
      loadEnds_isFramed waiting false _ _ _ _ _ (loadFails_eq _ _)⟩⟩

/-! ## The records of an image (R32, R165) -/

/-- R165, R166: the load goes on from a state with the store's operation complete and nothing sent. -/
theorem loadGoesOn_loadNext {s u : State} (w : LoadWork) (h : Header)
    (walker : u.walker = s.walker) (asked : u.arbiter.store = none) (sent : u.out.flash = []) :
    LoadGoesOn s w h (u.loadNext w h) := by
  unfold State.loadNext
  split
  · rename_i left
    refine ⟨fun _ => ⟨rfl, ?_, asked, walker⟩, fun ended => absurd left (Nat.not_lt.mpr ended)⟩
    show u.out.flash ++ _ = _
    rw [sent]
    rfl
  · rename_i ended
    refine ⟨fun left => absurd left ended, fun _ => ?_⟩
    split
    · rename_i good
      refine ⟨rfl, sent, fun _ => ⟨storeAsks_asked _ _, ?_⟩, fun bad => absurd good bad⟩
      rw [← walker]
      rfl
    · rename_i bad
      exact ⟨rfl, sent, fun good => absurd good bad, fun _ => ⟨storeAsks_asked _ _, walker⟩⟩

theorem unchangedBut_loadNext (s : State) (w : LoadWork) (h : Header) :
    UnchangedBut [.arbiter, .store, .walker] s (s.loadNext w h) := by
  unfold State.loadNext
  split
  · exact (unchangedBut_beginRead s _ _).mono (by decide)
  · split
    · have written := (unchangedBut_iff [.walker] s (s.setDrive h.driveMax h.probeInterval)).mpr
        (by simp)
      exact (written.trans (unchangedBut_storeAsks _ _)).mono (by decide)
    · exact (unchangedBut_storeAsks s _).mono (by decide)

theorem loadNext_work (s : State) (w : LoadWork) (h : Header) :
    (s.loadNext w h).store.work = s.store.work := by
  unfold State.loadNext
  repeat' split
  all_goals rfl

/-- The completion of a load geometry, with the load still to go on. -/
theorem exec_loadGeometry {s : State} {g : Geometry} {w : LoadWork} {h : Header}
    (hop : s.arbiter.storeOp = some (.loadGeometry g)) (work : s.store.work = .loading w)
    (header : w.header = some h) :
    exec .loadGeometry s =
      .next ((s.quiet.complete .store (s.table.loadGeometry g)).loadNext w h) := by
  obtain ⟨_, hc, c, n, k, e⟩ := w
  obtain rfl := header
  show execLoadGeometry s = _
  unfold execLoadGeometry
  rw [hop, work]

/-- The completion of a load insert, by its outcome, with the load still to go on. -/
theorem exec_loadInsert {s : State} {p : Persistent} {w : LoadWork} {h : Header}
    (hop : s.arbiter.storeOp = some (.loadInsert p)) (work : s.store.work = .loading w)
    (header : w.header = some h) :
    exec .loadInsert s = .next
      (if (s.table.loadInsert p).2 then
        ((s.quiet.complete .store (s.table.loadInsert p).1).setWork
          (.loading { w with slots := w.slots + 1, lastKey := some p.key })).loadNext
          { w with slots := w.slots + 1, lastKey := some p.key } h
      else (s.quiet.complete .store (s.table.loadInsert p).1).failLoad) := by
  obtain ⟨_, hc, c, n, k, e⟩ := w
  obtain rfl := header
  show execLoadInsert s = _
  unfold execLoadInsert
  rw [hop, work]

/-- Settles O50: load geometry, then load insert inside and outside the geometry. -/
theorem imageRecordsAreInserted : Obligations.ImageRecordsAreInserted := by
  refine ⟨fun s g w h hop work header empty => ?_,
    fun s p w h hop work header loading absent room => ?_⟩
  · refine ⟨_, exec_loadGeometry hop work header, ?_⟩
    rw [show s.table.loadGeometry g = { s.table with geometry := g } from if_pos empty]
    exact ⟨(keeps_loadNext _ _ _).table, loadNext_work _ _ _,
      loadGoesOn_loadNext w h rfl (complete_store_asked _ _) rfl,
      ((unchangedBut_complete s .store _).trans (unchangedBut_loadNext _ _ _)).mono (by decide)⟩
  · refine ⟨_, exec_loadInsert hop work header, ?_⟩
    by_cases inside : s.table.geometry.contains p.key
    · have full : s.table.full = false := by
        rw [Bool.eq_false_iff, ne_eq, Table.full_iff]
        omega
      rw [show s.table.loadInsert p = (s.table.join p, true) from
        if_pos ⟨loading, inside, Option.isNone_iff_eq_none.mpr absent, full⟩, if_pos rfl,
        (keeps_loadNext _ _ _).table]
      refine ⟨⟨rfl, rfl, rfl, rfl⟩, s.table.othersKept_join rfl,
        (((unchangedBut_complete s .store _).trans (unchangedBut_setWork _ _)).trans
          (unchangedBut_loadNext _ _ _)).mono (by decide),
        fun _ => ⟨Table.find_join (t := s.table) rfl absent, Table.join_length s.table p,
          loadNext_work _ _ _, ?_⟩,
        fun outside => absurd inside outside⟩
      exact loadGoesOn_loadNext { w with slots := w.slots + 1, lastKey := some p.key } h rfl
        (complete_store_asked s.quiet (s.table.join p)) rfl
    · rw [show s.table.loadInsert p = (s.table, false) from
        if_neg fun ⟨_, h, _⟩ => inside h, if_neg Bool.false_ne_true]
      exact ⟨⟨rfl, rfl, rfl, rfl⟩, fun _ _ => rfl, ((unchangedBut_complete s .store _).trans
        (unchangedBut_storeAsks _ _)).mono (by decide), fun h => absurd h inside,
        fun _ => ⟨rfl, rfl, rfl, rfl, storeAsks_asked _ _⟩⟩

end Sys2Proof.Machine
end

section
/-! PROOFS. The raster walker's inputs: frames that begin, are held or end short (R45, R53, R54), the levels they take (R44, R48), video that is lost and blank sends (R53 to R57), and SET_DRIVE (R59). -/
namespace Sys2Proof.Machine

/-! ## What each update of the walker leaves -/

section
variable (s : State)

theorem unchangedBut_quiet : UnchangedBut [] s s.quiet := by
  rw [unchangedBut_iff]
  simp

theorem unchangedBut_drive (items : List DriveItem) : UnchangedBut [] s (s.drive items) := by
  rw [unchangedBut_iff]
  simp [State.drive]

theorem unchangedBut_withWalker (w : Walker) : UnchangedBut [.walker] s (s.withWalker w) := by
  rw [unchangedBut_iff]
  simp

theorem unchangedBut_raise (e : Event) : UnchangedBut [.events] s (s.raise e) := by
  rw [unchangedBut_iff]
  simp [State.raise]

theorem unchangedBut_askWalker (r : WalkerReq) : UnchangedBut [.arbiter] s (s.askWalker r) := by
  rw [unchangedBut_iff]
  simp [State.askWalker_eq]

end

/-- R20: with the walker's operation complete the walker asks for nothing. -/
theorem complete_walker_asked (s : State) (t : Table) :
    (s.complete .walker t).arbiter.walker = none := by
  simp [Arbiter.released]

/-! ## The walker's next find (R48 step 1) -/

section
variable {s : State}

theorem driveNext_of_ready (walking : s.walker.state = .walking) (ending : s.walker.ending = none)
    (free : s.arbiter.walker = none) (three : 3 ≤ s.walker.levels.length) :
    s.driveNext = s.askWalker (.find s.walker.position) :=
  if_pos ⟨walking, ending, free, three⟩

theorem driveNext_of_not_ready (h : ¬ (s.arbiter.walker = none ∧ 3 ≤ s.walker.levels.length)) :
    s.driveNext = s :=
  if_neg fun ⟨_, _, free, three⟩ => h ⟨free, three⟩

theorem driveNext_out : s.driveNext.out = s.out := by
  unfold State.driveNext; split <;> rfl

/-- Asking early or late comes to the same, as long as the walker only gains levels meanwhile: a find asked for is not asked for again. -/
theorem driveNext_withWalker {w : Walker} (state : w.state = s.walker.state)
    (ending : w.ending = s.walker.ending) (position : w.position = s.walker.position)
    (more : s.walker.levels.length ≤ w.levels.length) :
    (s.driveNext.withWalker w).driveNext = (s.withWalker w).driveNext := by
  by_cases ready : s.walker.state = .walking ∧ s.walker.ending = none ∧
      s.arbiter.walker = none ∧ 3 ≤ s.walker.levels.length
  · obtain ⟨walking, unmarked, free, three⟩ := ready
    rw [driveNext_of_ready walking unmarked free three,
      driveNext_of_ready (s := s.withWalker w) (state.trans walking) (ending.trans unmarked) free
        (three.trans more), State.withWalker_walker, position]
    exact driveNext_of_not_ready (by simp [State.askWalker_eq])
  · rw [show s.driveNext = s from if_neg ready]

end

theorem driveNext_driveNext (s : State) : s.driveNext.driveNext = s.driveNext := by
  have again := driveNext_withWalker (s := s) (w := s.walker) rfl rfl rfl le_rfl
  rwa [show s.driveNext.withWalker s.walker = s.driveNext by
    rw [← s.driveNext_walker]; rfl] at again

/-! ## Levels (R44, R51) -/

section
variable {s : State} (l : Level)

theorem levelArrives_of_outside (h : s.walker.state ≠ .walking) : s.levelArrives l = s := if_pos h

/-- R53: the level belongs to a frame start that waits. -/
theorem levelArrives_of_waiting (walking : s.walker.state = .walking)
    (waits : s.walker.held = true ∨ s.walker.ending = some .short) :
    s.levelArrives l =
      s.withWalker { s.walker with heldLevels := s.walker.heldLevels ++ [l] } := by
  unfold State.levelArrives
  rw [if_neg (not_not.mpr walking), if_pos waits]

/-- R44: the frame in hand has room for the level. -/
theorem levelArrives_of_room (walking : s.walker.state = .walking) (unheld : s.walker.held = false)
    (ending : s.walker.ending = none) (room : s.walker.arrived < s.walker.frameLevels) :
    s.levelArrives l = (s.withWalker { s.walker with
      levels := s.walker.levels ++ [l], arrived := s.walker.arrived + 1 }).driveNext := by
  unfold State.levelArrives
  rw [if_neg (not_not.mpr walking), if_neg (by simp [unheld, ending]), if_pos ⟨ending, room⟩]

/-- No frame start waits, and the frame in hand is marked as lost or whole. -/
theorem levelArrives_of_no_room (walking : s.walker.state = .walking)
    (unheld : s.walker.held = false) (unmarked : s.walker.ending ≠ some .short)
    (full : ¬ (s.walker.ending = none ∧ s.walker.arrived < s.walker.frameLevels)) :
    s.levelArrives l = s := by
  unfold State.levelArrives
  rw [if_neg (not_not.mpr walking), if_neg (by simp [unheld, unmarked]), if_neg full]

end

theorem levelArrives_out (s : State) (l : Level) : (s.levelArrives l).out = s.out := by
  unfold State.levelArrives
  repeat' split
  · rfl
  · rfl
  · exact driveNext_out
  · rfl

/-- The walker once levels have been taken, up to the last of the frame. -/
def Walker.taking (w : Walker) (ls : List Level) : Walker :=
  { w with
    levels := w.levels ++ ls.take (w.frameLevels - w.arrived)
    arrived := w.arrived + (ls.take (w.frameLevels - w.arrived)).length }

theorem Walker.taking_nil (w : Walker) : w.taking [] = w := by
  simp [Walker.taking]

theorem Walker.taking_of_full {w : Walker} (full : w.frameLevels ≤ w.arrived) (ls : List Level) :
    w.taking ls = w := by
  simp [Walker.taking, Nat.sub_eq_zero_of_le full]

theorem Walker.taking_cons {w : Walker} (room : w.arrived < w.frameLevels) (l : Level)
    (ls : List Level) :
    w.taking (l :: ls) =
      { w with levels := w.levels ++ [l], arrived := w.arrived + 1 }.taking ls := by
  obtain ⟨n, hn⟩ : ∃ n, w.frameLevels - w.arrived = n + 1 :=
    Nat.exists_eq_succ_of_ne_zero (Nat.sub_ne_zero_of_lt room)
  have left : w.frameLevels - (w.arrived + 1) = n := by omega
  unfold Walker.taking
  rw [show Walker.frameLevels { w with levels := w.levels ++ [l], arrived := w.arrived + 1 } =
    w.frameLevels from rfl, hn, left]
  simp [Nat.add_comm, Nat.add_assoc]

/-- R44, R48: levels that arrive one after the other are taken up to the last of the frame, and the walker asks for its find once. -/
theorem levels_taken (ls : List Level) : ∀ {s : State}, s.walker.state = .walking →
    s.walker.held = false → s.walker.ending = none → s.driveNext = s →
    ls.foldl State.levelArrives s = (s.withWalker (s.walker.taking ls)).driveNext := by
  induction ls with
  | nil => intro s _ _ _ settled; rw [Walker.taking_nil]; exact settled.symm
  | cons l ls ih =>
    intro s walking unheld ending settled
    rw [List.foldl_cons]
    by_cases room : s.walker.arrived < s.walker.frameLevels
    · rw [levelArrives_of_room l walking unheld ending room, ih, Walker.taking_cons room,
        State.driveNext_walker]
      · exact driveNext_withWalker rfl rfl rfl (by simp [Walker.taking])
      · rw [State.driveNext_walker]; exact walking
      · rw [State.driveNext_walker]; exact unheld
      · rw [State.driveNext_walker]; exact ending
      · exact driveNext_driveNext _
    · have full := Nat.le_of_not_lt room
      rw [levelArrives_of_no_room l walking unheld (by simp [ending]) (fun h => room h.2),
        ih walking unheld ending settled, Walker.taking_of_full full, Walker.taking_of_full full]

/-- Settles O10: by the walker's state, by what waits, and by the room left in the frame. -/
theorem pixelLevelIsTakenOrIgnored : Obligations.PixelLevelIsTakenOrIgnored := by
  refine ⟨fun _ => rfl, fun l s => ⟨s.quiet.levelArrives l, rfl, ?_, fun outside => ?_,
    fun walking waits => ?_, fun walking unheld unmarked => ?_⟩⟩
  · rw [levelArrives_out]; rfl
  · rw [levelArrives_of_outside (s := s.quiet) l outside]
    exact unchangedBut_quiet s
  · rw [levelArrives_of_waiting (s := s.quiet) l walking waits]
    exact ⟨rfl, (unchangedBut_quiet s).trans (unchangedBut_withWalker _ _)⟩
  · refine ⟨fun ⟨ending, room⟩ => ?_, fun full => ?_⟩
    · rw [levelArrives_of_room (s := s.quiet) l walking unheld ending room]
      refine ⟨State.driveNext_walker _, fun ⟨free, two⟩ => ?_, fun idle => ?_,
        ((unchangedBut_quiet s).trans (unchangedBut_withWalker _ _)).trans
          (unchangedBut_driveNext _)⟩
      · rw [driveNext_of_ready]
        · simp [State.askWalker_eq]
        · exact walking
        · exact ending
        · exact free
        · simpa using two
      · rw [driveNext_of_not_ready]
        · rfl
        · simpa using idle
    · rw [levelArrives_of_no_room (s := s.quiet) l walking unheld unmarked full]
      exact unchangedBut_quiet s

/-! ## A frame begins (R45, R46) -/

/-- R46: a probe frame is one whose number the interval divides, with an interval that is not off. -/
theorem isProbeFrame_iff (i : ProbeInterval) (f : FrameNo) :
    isProbeFrame i f = true ↔ i.frames ≠ 0 ∧ f.toNat % i.frames = 0 := by
  cases i <;> simp [isProbeFrame, ProbeInterval.frames]

/-- R45: the walker of s as a frame start leaves it, before the levels that waited are taken. -/
def State.begunWalker (s : State) : Walker :=
  { s.walker with
    state := .walking, frameNumber := s.walker.frameNumber + 1, latches := s.latch
    position := ⟨0, 0⟩, running := 0, timer := .running, blankSend := none, levels := []
    arrived := 0, held := false, heldLevels := [], heldExpiry := false, ending := none }

theorem beginFrame_eq (s : State) :
    s.beginFrame = (((s.withWalker s.begunWalker).drive [.startMark]).withWalker
      (s.begunWalker.taking s.walker.heldLevels)).driveNext :=
  levels_taken s.walker.heldLevels rfl rfl rfl
    (driveNext_of_not_ready fun h =>
      absurd (show 3 ≤ ([] : List Level).length from h.2) (by decide))

theorem beginFrame_out (s : State) :
    s.beginFrame.out = { s.out with drive := s.out.drive ++ [.startMark] } := by
  rw [beginFrame_eq]
  exact driveNext_out

theorem unchangedBut_beginFrame (s : State) : UnchangedBut [.walker, .arbiter] s s.beginFrame := by
  rw [beginFrame_eq]
  exact ((((unchangedBut_withWalker s _).trans (unchangedBut_drive _ _)).trans
    (unchangedBut_withWalker _ _)).trans (unchangedBut_driveNext _)).mono (by decide)

theorem frameBegun_beginFrame (s : State) : FrameBegun s s.beginFrame := by
  rw [beginFrame_eq]
  unfold FrameBegun
  rw [State.driveNext_walker]
  refine ⟨rfl, rfl, rfl, rfl, rfl, isProbeFrame_iff _ _, rfl, rfl, rfl, rfl, rfl, rfl, rfl, rfl,
    rfl, rfl, rfl, rfl, rfl, Nat.zero_add _, fun ⟨free, three⟩ => ?_, fun idle => ?_⟩
  · rw [driveNext_of_ready (three := three)]
    · rfl
    · rfl
    · rfl
    · exact free
  · rw [driveNext_of_not_ready idle]
    rfl

/-! ## Frame starts as they arrive (R45, R53, R54) -/

section
variable {s : State}

/-- R45: a frame start in IDLE, WAITING or BLANK. -/
theorem frameStartArrives_of_left (left : s.walker.state ≠ .walking)
    (unheld : s.walker.held = false) : s.frameStartArrives = s.beginFrame := by
  unfold State.frameStartArrives
  cases state : s.walker.state with
  | walking => exact absurd state left
  | idle | waiting | blank => exact if_neg (by simp [unheld])

/-- R53: outside WALKING a frame start takes the place of the one held. -/
theorem frameStartArrives_of_held (left : s.walker.state ≠ .walking)
    (held : s.walker.held = true) : s.frameStartArrives = s.holdFrameStart := by
  unfold State.frameStartArrives
  cases state : s.walker.state with
  | walking => exact absurd state left
  | idle | waiting | blank => exact if_pos held

/-- R53: a frame start after the frame's last level. -/
theorem frameStartArrives_of_whole (walking : s.walker.state = .walking)
    (ending : s.walker.ending = none) (whole : s.walker.arrived = s.walker.frameLevels) :
    s.frameStartArrives = s.holdFrameStart := by
  simp only [State.frameStartArrives, walking, ending, if_pos whole]

/-- R54: a frame start before the frame's last level. -/
theorem frameStartArrives_of_missing (walking : s.walker.state = .walking)
    (ending : s.walker.ending = none) (missing : s.walker.arrived ≠ s.walker.frameLevels) :
    s.frameStartArrives = s.abandonFrame .short := by
  simp only [State.frameStartArrives, walking, ending, if_neg missing]

/-- The frame start takes the place of the one for which the frame is cut short. -/
theorem frameStartArrives_of_short (walking : s.walker.state = .walking)
    (ending : s.walker.ending = some .short) :
    s.frameStartArrives = s.withWalker { s.walker with heldLevels := [] } := by
  simp only [State.frameStartArrives, walking, ending]

theorem frameStartArrives_of_lost (walking : s.walker.state = .walking)
    (ending : s.walker.ending = some .lost) : s.frameStartArrives = s.holdFrameStart := by
  simp only [State.frameStartArrives, walking, ending]

/-- The frame is abandoned at once by a walker without a request. -/
theorem abandonFrame_of_free (free : s.arbiter.walker = none) (e : Ending) :
    s.abandonFrame e = s.endAbandoned e := if_pos free

/-- The frame is marked to end while the walker's request is unfinished. -/
theorem abandonFrame_of_asking (asking : s.arbiter.walker ≠ none) (e : Ending) :
    s.abandonFrame e =
      s.withWalker { s.walker with ending := some e, heldLevels := [] } := if_neg asking

end

/-- One update of the walker, as the whole effect of a command. -/
theorem unchangedBut_quiet_withWalker (s : State) (w : Walker) :
    UnchangedBut [.walker] s (s.quiet.withWalker w) :=
  (unchangedBut_quiet s).trans (unchangedBut_withWalker _ _)

/-- A frame begun by a command that does nothing else. -/
theorem frameBegun_quiet (s : State) :
    FrameBegun s s.quiet.beginFrame ∧ s.quiet.beginFrame.out.drive = [.startMark] ∧
      UnchangedBut [.walker, .arbiter] s s.quiet.beginFrame :=
  ⟨frameBegun_beginFrame s.quiet, by rw [beginFrame_out]; rfl,
    (unchangedBut_quiet s).trans (unchangedBut_beginFrame _)⟩

/-- Settles O8: by the walker's state and by what is held. -/
theorem frameStartBeginsAFrame : Obligations.FrameStartBeginsAFrame := by
  refine ⟨fun s left unheld => ⟨s.quiet.frameStartArrives, rfl, ?_⟩,
    fun s walking ending whole => ⟨s.quiet.frameStartArrives, rfl, ?_⟩,
    fun s left held => ⟨s.quiet.frameStartArrives, rfl, ?_⟩,
    fun s held left => ⟨s.quiet.takeHeldFrameStart, rfl, ?_⟩,
    fun s nothing => ⟨s.quiet.takeHeldFrameStart, rfl, ?_⟩⟩
  · rw [frameStartArrives_of_left (s := s.quiet) left unheld]
    exact frameBegun_quiet s
  · rw [frameStartArrives_of_whole (s := s.quiet) walking ending whole]
    exact ⟨rfl, rfl, unchangedBut_quiet_withWalker s _⟩
  · rw [frameStartArrives_of_held (s := s.quiet) left held]
    exact ⟨rfl, rfl, unchangedBut_quiet_withWalker s _⟩
  · rw [show s.quiet.takeHeldFrameStart = s.quiet.beginFrame from if_pos ⟨held, left⟩]
    exact frameBegun_quiet s
  · rw [show s.quiet.takeHeldFrameStart = s.quiet from if_neg nothing]
    exact ⟨rfl, unchangedBut_quiet s⟩

/-! ## Frames that end short (R54) -/

/-- What the walker does with a finished find is set aside when the frame is marked to end. -/
theorem emitterFound_of_ending {s : State} {e : Ending} (ending : s.walker.ending = some e)
    (found : Option Record) : s.emitterFound found = s.endAbandoned e := by
  unfold State.emitterFound
  rw [ending]

theorem emitterStamped_of_ending {s : State} {e : Ending} (ending : s.walker.ending = some e) :
    s.emitterStamped = s.endAbandoned e := by
  unfold State.emitterStamped
  rw [ending]

/-- The completion of the walker's find, with its outcome still to be acted on. -/
theorem exec_walkerFind {s : State} {k : Key} (hop : s.arbiter.walkerOp = some (.find k)) :
    exec .findByKey s =
      .next ((s.quiet.complete .walker s.table).emitterFound (s.table.walkerFind k)) := by
  show execFindByKey s = _
  unfold execFindByKey
  rw [hop]

/-- R54: SHORT_FRAME is raised and the new frame begins. -/
theorem frameBegun_endShort (s : State) :
    FrameBegun s s.endShort ∧ s.endShort.events = s.events.raise .shortFrame ∧
      s.endShort.out.drive = s.out.drive ++ [.startMark] ∧
      UnchangedBut [.events, .walker, .arbiter] s s.endShort := by
  have begun := unchangedBut_beginFrame (s.raise .shortFrame)
  refine ⟨frameBegun_beginFrame (s.raise .shortFrame), begun.1 .events (by decide), ?_,
    (unchangedBut_raise s _).trans begun⟩
  unfold State.endShort
  rw [beginFrame_out]
  rfl

/-- R54: the walker's operation completes and the frame marked to end short ends. -/
theorem completed_endShort (s : State) (t : Table) :
    FrameBegun (s.complete .walker t) ((s.quiet.complete .walker t).endAbandoned .short) ∧
      ((s.quiet.complete .walker t).endAbandoned .short).events = s.events.raise .shortFrame ∧
      ((s.quiet.complete .walker t).endAbandoned .short).out.drive = [.startMark] ∧
      UnchangedBut [.walker, .arbiter, .events] (s.quiet.complete .walker t)
        ((s.quiet.complete .walker t).endAbandoned .short) := by
  obtain ⟨begun, events, drive, frame⟩ := frameBegun_endShort (s.quiet.complete .walker t)
  exact ⟨begun, events, drive, frame.mono (by decide)⟩

/-- Settles O9: by the walker's request, by the mark on the frame, and by the operation that completes. -/
theorem frameStartEndsAFrameShort : Obligations.FrameStartEndsAFrameShort := by
  refine ⟨fun s walking ending missing => ⟨s.quiet.frameStartArrives, rfl, ?_⟩,
    fun s e walking ending => ⟨s.quiet.frameStartArrives, rfl, ?_⟩,
    fun s k hop ending => ⟨_, exec_walkerFind hop, ?_⟩,
    fun s k f cs hop ending => ⟨_, exec_stampProbeFrame hop, ?_⟩⟩
  · rw [frameStartArrives_of_missing (s := s.quiet) walking ending missing]
    refine ⟨fun free => ?_, fun asking => ?_⟩
    · obtain ⟨begun, events, drive, frame⟩ := frameBegun_endShort s.quiet
      rw [abandonFrame_of_free (s := s.quiet) free]
      exact ⟨begun, events, drive, ((unchangedBut_quiet s).trans frame).mono (by decide)⟩
    · rw [abandonFrame_of_asking (s := s.quiet) asking]
      exact ⟨rfl, rfl, unchangedBut_quiet_withWalker s _⟩
  · cases e with
    | short =>
      rw [frameStartArrives_of_short (s := s.quiet) walking ending]
      exact ⟨rfl, unchangedBut_quiet_withWalker s _, fun _ => rfl, nofun⟩
    | lost =>
      rw [frameStartArrives_of_lost (s := s.quiet) walking ending]
      exact ⟨rfl, unchangedBut_quiet_withWalker s _, nofun, fun _ => rfl⟩
  · rw [emitterFound_of_ending (s := s.quiet.complete .walker _) ending]
    obtain ⟨begun, events, drive, frame⟩ := completed_endShort s s.table
    exact ⟨begun, events, drive,
      ((unchangedBut_complete_same s .walker).trans frame).mono (by decide)⟩
  · rw [emitterStamped_of_ending (s := s.quiet.complete .walker _) ending]
    obtain ⟨begun, events, drive, frame⟩ := completed_endShort s (s.table.stamp k f cs)
    have table := frame.1 .table (by decide)
    refine ⟨table, ?_, events, drive,
      ((unchangedBut_complete s .walker _).trans frame).mono (by decide)⟩
    rw [show State.table _ = s.table.stamp k f cs from table]
    exact begun

/-! ## Video is lost (R53, R55, R56) -/

/-- R56: the walker once video is lost, blanking a geometry. -/
def Walker.blanked (w : Walker) (g : Geometry) : Walker :=
  { w with
    state := .blank, timer := .stopped, running := 0, levels := [], arrived := 0
    heldExpiry := false, ending := none, blankSend := some g }

theorem loseVideo_eq (s : State) :
    s.loseVideo = (((s.withWalker (s.walker.blanked s.table.geometry)).drive [.startMark]).raise
      .videoLost).askOfMonitor .emptyList := rfl

/-- R56: with no request overdue, video lost is a change of the walker, a start mark, an event and the suspect list emptied or asked for. -/
theorem loseVideo_spec {s : State} (h : s.monitor.nothingOverdue) :
    s.loseVideo.walker = s.walker.blanked s.table.geometry ∧
      s.loseVideo.events = s.events.raise .videoLost ∧
      s.loseVideo.out.drive = s.out.drive ++ [.startMark] ∧
      s.loseVideo.arbiter = s.arbiter ∧ SuspectsCleared s s.loseVideo ∧
      UnchangedBut [.walker, .monitor, .events] s s.loseVideo := by
  rw [loseVideo_eq, askOfMonitor_emptyList]
  · exact ⟨rfl, rfl, rfl, rfl,
      ⟨fun rest => if_pos rest, fun busy => if_neg (Bool.eq_false_iff.mp busy)⟩,
      ((((unchangedBut_withWalker s _).trans (unchangedBut_drive _ _)).trans
        (unchangedBut_raise _ _)).trans (unchangedBut_withMonitor _ _)).mono (by decide)⟩
  · exact h

/-- R56: video lost by a command that does nothing else. -/
theorem videoLost_quiet {s : State} (h : s.monitor.nothingOverdue) :
    VideoLost s s.quiet.loseVideo ∧ SuspectsCleared s s.quiet.loseVideo ∧
      UnchangedBut [.walker, .monitor, .events] s s.quiet.loseVideo := by
  obtain ⟨walker, events, drive, -, suspects, frame⟩ := loseVideo_spec (s := s.quiet) h
  exact ⟨⟨walker, events, drive⟩, suspects, (unchangedBut_quiet s).trans frame⟩

/-- R56 step 1: the walker's operation, which keeps the geometry, completes and video is lost. -/
theorem completed_loseVideo {s : State} {t : Table} (h : s.monitor.nothingOverdue)
    (geometry : t.geometry = s.table.geometry) :
    VideoLost s ((s.quiet.complete .walker t).endAbandoned .lost) ∧
      SuspectsCleared s ((s.quiet.complete .walker t).endAbandoned .lost) ∧
      Completed s .walker ((s.quiet.complete .walker t).endAbandoned .lost) ∧
      UnchangedBut [.walker, .monitor, .events] (s.quiet.complete .walker t)
        ((s.quiet.complete .walker t).endAbandoned .lost) := by
  obtain ⟨walker, events, drive, arbiter, suspects, frame⟩ :=
    loseVideo_spec (s := s.quiet.complete .walker t) h
  refine ⟨⟨walker.trans ?_, events, drive⟩, suspects, arbiter, frame⟩
  rw [State.complete_table, geometry]
  rfl

section
variable {s : State}

theorem timerExpires_of_stopped (stopped : s.walker.timer = .stopped) : s.timerExpires = s := by
  unfold State.timerExpires
  rw [stopped]

theorem timerExpires_of_blank (h : s.walker.state = .idle ∨ s.walker.state = .blank) :
    s.timerExpires = s := by
  unfold State.timerExpires
  obtain h | h := h
  all_goals rw [h]; cases s.walker.timer <;> rfl

theorem timerExpires_of_waiting (running : s.walker.timer = .running)
    (waiting : s.walker.state = .waiting) : s.timerExpires = s.loseVideo := by
  unfold State.timerExpires
  rw [running, waiting]

/-- R53: an expiry after the frame's last level is held. -/
theorem timerExpires_of_whole (running : s.walker.timer = .running)
    (walking : s.walker.state = .walking) (ending : s.walker.ending = none)
    (whole : s.walker.arrived = s.walker.frameLevels) :
    s.timerExpires = s.withWalker { s.walker with heldExpiry := true } := by
  simp [State.timerExpires, running, walking, ending, whole]

/-- R56: an expiry before the frame's last level. -/
theorem timerExpires_of_missing (running : s.walker.timer = .running)
    (walking : s.walker.state = .walking) (ending : s.walker.ending = none)
    (missing : s.walker.arrived ≠ s.walker.frameLevels) :
    s.timerExpires = s.abandonFrame .lost := by
  simp [State.timerExpires, running, walking, ending, missing]

/-- An expiry does nothing to a frame that is marked to end (log entry 10). -/
theorem timerExpires_of_ending (running : s.walker.timer = .running)
    (walking : s.walker.state = .walking) (marked : s.walker.ending ≠ none) :
    s.timerExpires = s := by
  simp [State.timerExpires, running, walking, Option.isSome_iff_ne_none.mpr marked]

/-- R57: the end of a blank send. -/
theorem blankSent_of_send {g : Geometry} (send : s.walker.blankSend = some g) :
    s.blankSent = (s.withWalker { s.walker with blankSend := none }).drive
      [.zeros (3 * (g.rows * g.cols)), .latch s.walker.frameNumber false] := by
  unfold State.blankSent
  rw [send]
  rfl

theorem blankSent_of_none (idle : s.walker.blankSend = none) : s.blankSent = s := by
  unfold State.blankSent
  rw [idle]

end

/-- R53, R55, R56: the expiry of a running timer, by the walker's state. -/
theorem runningTimer_expires {s : State} (overdue : s.monitor.nothingOverdue)
    (running : s.walker.timer = .running) {t : State} (ht : s.quiet.timerExpires = t) :
    (s.walker.state = .waiting ∨ (s.walker.state = .walking ∧ s.walker.ending = none ∧
        s.walker.arrived ≠ s.walker.frameLevels ∧ s.arbiter.walker = none) →
      VideoLost s t ∧ SuspectsCleared s t ∧ UnchangedBut [.walker, .monitor, .events] s t) ∧
    (s.walker.state = .walking → s.walker.ending = none →
      s.walker.arrived ≠ s.walker.frameLevels → s.arbiter.walker ≠ none →
      t.walker = { s.walker with ending := some .lost, heldLevels := [] } ∧
      UnchangedBut [.walker] s t) ∧
    (s.walker.state = .walking → s.walker.ending = none →
      s.walker.arrived = s.walker.frameLevels →
      t.walker = { s.walker with heldExpiry := true } ∧ UnchangedBut [.walker] s t) ∧
    (s.walker.state = .walking → s.walker.ending ≠ none →
      t.out.drive = [] ∧ UnchangedBut [] s t) ∧
    (s.walker.state = .idle ∨ s.walker.state = .blank →
      t.out.drive = [] ∧ UnchangedBut [] s t) := by
  subst ht
  refine ⟨?_, fun walking ending missing asking => ?_, fun walking ending whole => ?_,
    fun walking marked => ?_, fun blank => ?_⟩
  · rintro (waiting | ⟨walking, ending, missing, free⟩)
    · rw [timerExpires_of_waiting (s := s.quiet) running waiting]
      exact videoLost_quiet overdue
    · rw [timerExpires_of_missing (s := s.quiet) running walking ending missing,
        abandonFrame_of_free (s := s.quiet) free]
      exact videoLost_quiet overdue
  · rw [timerExpires_of_missing (s := s.quiet) running walking ending missing,
      abandonFrame_of_asking (s := s.quiet) asking]
    exact ⟨rfl, unchangedBut_quiet_withWalker s _⟩
  · rw [timerExpires_of_whole (s := s.quiet) running walking ending whole]
    exact ⟨rfl, unchangedBut_quiet_withWalker s _⟩
  · rw [timerExpires_of_ending (s := s.quiet) running walking marked]
    exact ⟨rfl, unchangedBut_quiet s⟩
  · rw [timerExpires_of_blank (s := s.quiet) blank]
    exact ⟨rfl, unchangedBut_quiet s⟩

/-- Settles O11: the expiry by the timer and the walker's state, the two operations of a frame marked as lost, and the end of a blank send. -/
theorem videoIsLostAndBlanked : Obligations.VideoIsLostAndBlanked := by
  refine ⟨fun s overdue => ⟨s.quiet.timerExpires, rfl, fun stopped => ?_,
      fun running => runningTimer_expires overdue running rfl⟩,
    fun s k overdue hop ending => ⟨_, exec_walkerFind hop, ?_⟩,
    fun s k f cs overdue hop ending => ⟨_, exec_stampProbeFrame hop, ?_⟩,
    fun s => ⟨s.quiet.blankSent, rfl, fun g send => ?_, fun idle => ?_⟩⟩
  · rw [timerExpires_of_stopped (s := s.quiet) stopped]
    exact unchangedBut_quiet s
  · rw [emitterFound_of_ending (s := s.quiet.complete .walker _) ending]
    obtain ⟨lost, suspects, completed, frame⟩ := completed_loseVideo (t := s.table) overdue rfl
    exact ⟨lost, suspects, completed,
      ((unchangedBut_complete_same s .walker).trans frame).mono (by decide)⟩
  · rw [emitterStamped_of_ending (s := s.quiet.complete .walker _) ending]
    obtain ⟨-, -, -, geometry⟩ := s.table.settingsKept_stamp k f cs
    obtain ⟨lost, suspects, completed, frame⟩ := completed_loseVideo overdue geometry
    exact ⟨frame.1 .table (by decide), lost, suspects, completed,
      ((unchangedBut_complete s .walker _).trans frame).mono (by decide)⟩
  · rw [blankSent_of_send (s := s.quiet) send]
    exact ⟨rfl, rfl, (unchangedBut_quiet_withWalker s _).trans (unchangedBut_drive _ _)⟩
  · rw [blankSent_of_none (s := s.quiet) idle]
    exact ⟨rfl, unchangedBut_quiet s⟩

/-! ## SET_DRIVE (R59) -/

/-- R59: an interval code gives the interval of that code. -/
theorem ProbeInterval.ofCode_eq_some_iff {n : Nat} {p : ProbeInterval} :
    ProbeInterval.ofCode n = some p ↔ p.code = n := by
  constructor
  · intro h
    unfold ProbeInterval.ofCode at h
    split at h <;> cases h <;> rfl
  · rintro rfl
    cases p <;> rfl

theorem ProbeInterval.exists_code {n : Nat} (h : n ≤ 5) : ∃ p : ProbeInterval, p.code = n :=
  match n, h with
  | 0, _ => ⟨.off, rfl⟩
  | 1, _ => ⟨.every16, rfl⟩
  | 2, _ => ⟨.every32, rfl⟩
  | 3, _ => ⟨.every64, rfl⟩
  | 4, _ => ⟨.every128, rfl⟩
  | 5, _ => ⟨.every256, rfl⟩

theorem ProbeInterval.code_le (p : ProbeInterval) : p.code ≤ 5 := by
  cases p <;> decide

section
variable (via : Via) {d : Word16} {i : Byte} (s : State)

theorem startSetDrive_of_valid {p : ProbeInterval} (drive : 255 ≤ d.toNat ∧ d.toNat ≤ 4095)
    (code : p.code = i.toNat) :
    s.startSetDrive via d i =
      (s.setDrive d.toNat p).respond via .ok (be16 d.toNat ++ [i]) := by
  unfold State.startSetDrive
  rw [ProbeInterval.ofCode_eq_some_iff.mpr code]
  exact if_pos ((driveMaxValid_iff _).mpr drive)

theorem startSetDrive_of_invalid (h : ¬ (255 ≤ d.toNat ∧ d.toNat ≤ 4095 ∧ i.toNat ≤ 5)) :
    s.startSetDrive via d i = s.respond via .badField [] := by
  unfold State.startSetDrive
  split
  · rfl
  · rename_i p code
    have inRange : i.toNat ≤ 5 := ProbeInterval.ofCode_eq_some_iff.mp code ▸ p.code_le
    exact if_neg fun valid =>
      have ⟨least, greatest⟩ := (driveMaxValid_iff _).mp valid
      h ⟨least, greatest, inRange⟩

end

/-- Settles O33: by whether DRIVE_MAX and the interval code are in range. -/
theorem setDriveWritesBothSettings : Obligations.SetDriveWritesBothSettings := by
  refine ⟨fun p => by cases p <;> rfl, fun via d i s hs => ?_⟩
  by_cases valid : 255 ≤ d.toNat ∧ d.toNat ≤ 4095 ∧ i.toNat ≤ 5
  · obtain ⟨least, greatest, inRange⟩ := valid
    obtain ⟨p, code⟩ := ProbeInterval.exists_code inRange
    have written : exec (.setDrive via d i) s = .next
        (((s.taken via 0x11).setDrive d.toNat p).respond via .ok (be16 d.toNat ++ [i])) :=
      congrArg Host.Outcome.next ((takeCommand_of_taken s via 0x11 _ hs).trans
        (startSetDrive_of_valid via _ ⟨least, greatest⟩ code))
    have answered : UnchangedBut [.walker, .engine] (s.taken via 0x11)
        (((s.taken via 0x11).setDrive d.toNat p).respond via .ok (be16 d.toNat ++ [i])) := by
      rw [unchangedBut_iff]
      simp
    refine ⟨_, written, rfl, fun _ => ⟨?_, ⟨p, code, ?_⟩,
      ((unchangedBut_taken s via 0x11).trans answered).mono (by decide)⟩,
      fun invalid => absurd ⟨least, greatest, inRange⟩ invalid⟩
    · unfold Answered
      rw [State.respond_engine, State.setDrive_eq, State.withWalker_engine, taken_engine]
      cases via <;> rfl
    · simp [State.taken]
  · obtain ⟨t, ht, answered, events, frame⟩ :=
      exec_answers (c := .setDrive via d i) hs rfl
        (startSetDrive_of_invalid via (s.taken via 0x11) valid)
    exact ⟨t, ht, events, fun h => absurd h valid, fun _ => ⟨answered, frame⟩⟩

end Sys2Proof.Machine
end

section
/-! PROOFS. The raster walker's emitters: what its find drives (R48 to R50), and the last emitter, which completes the frame (R52, R53). -/
namespace Sys2Proof.Machine

/-! ## An emitter is driven (R48 to R50) -/

/-- R48 steps 2 and 5: the codes of the emitter at the position are sent, and its record is counted. -/
def State.driven (s : State) (found : Option Record) : State :=
  (s.withWalker { s.walker with running := s.walker.runningAfter found }).drive
    (s.emitterCodes found)

theorem unchangedBut_driven (s : State) (found : Option Record) :
    UnchangedBut [.walker] s (s.driven found) :=
  (unchangedBut_withWalker s _).trans (unchangedBut_drive _ _)

/-- R50: a record with a probed colour is ACTIVE, and so it counts. -/
theorem countsAsApplied_of_probed {probing : Bool} {found : Option Record}
    (probed : probedColours probing found ≠ []) : countsAsApplied found = true := by
  obtain ⟨c, mem⟩ := List.exists_mem_of_ne_nil _ probed
  obtain ⟨r, hr, probes⟩ := (mem_probedColours_iff probing found c).mp mem
  obtain ⟨-, active, -⟩ := (probes_iff probing r c).mp probes
  exact (countsAsApplied_iff found).mpr ⟨r, hr, active⟩

/-- R50: a find with a probed colour raises the count. -/
theorem Walker.runningAfter_of_probed (w : Walker) {probing : Bool} {found : Option Record}
    (probed : probedColours probing found ≠ []) :
    w.runningAfter found = min (w.running + 1) 512 := by
  unfold Walker.runningAfter
  rw [countsAsApplied_of_probed probed]
  rfl

section
variable {s : State} {found : Option Record}

theorem emitterCodes_of_levels {r g b : Level} {rest : List Level}
    (levels : s.walker.levels = r :: g :: b :: rest) :
    s.emitterCodes found = [.codes
      (driveCode s.walker.latches.driveMax s.probing found .red r.toNat)
      (driveCode s.walker.latches.driveMax s.probing found .green g.toNat)
      (driveCode s.walker.latches.driveMax s.probing found .blue b.toNat)] := by
  unfold State.emitterCodes
  rw [levels]

/-- R49: with a probed colour the walker asks for the stamp. -/
theorem emitterFound_of_probed (ending : s.walker.ending = none)
    (probed : probedColours s.probing found ≠ []) :
    s.emitterFound found = (s.driven found).askWalker
      (.stamp s.walker.position s.walker.frameNumber (probedColours s.probing found)) := by
  unfold State.emitterFound
  rw [ending]
  dsimp only
  split
  · exact absurd ‹_› probed
  · rfl

/-- R48: a find without a probed colour is done with once its emitter is driven. -/
theorem emitterFound_of_unprobed (ending : s.walker.ending = none)
    (unprobed : probedColours s.probing found = []) :
    s.emitterFound found = (s.driven found).emitterDriven := by
  unfold State.emitterFound
  rw [ending, unprobed]
  rfl

/-- R48 step 6: the walker goes on to the next emitter. -/
theorem emitterFound_of_more (ending : s.walker.ending = none)
    (unprobed : probedColours s.probing found = [])
    (more : s.walker.position ≠ s.walker.latches.geometry.last) :
    s.emitterFound found = ((s.driven found).withWalker { (s.driven found).walker with
      position := s.walker.latches.geometry.after s.walker.position
      levels := s.walker.levels.drop 3 }).driveNext :=
  (emitterFound_of_unprobed ending unprobed).trans (if_neg more)

/-- R52: after the find of the last emitter the frame is complete. -/
theorem emitterFound_of_last (ending : s.walker.ending = none)
    (unprobed : probedColours s.probing found = [])
    (last : s.walker.position = s.walker.latches.geometry.last) :
    s.emitterFound found = (s.driven found).completeFrame :=
  (emitterFound_of_unprobed ending unprobed).trans (if_pos last)

/-- R49, R52: after the stamp of the last emitter the frame is complete. -/
theorem emitterStamped_of_last (ending : s.walker.ending = none)
    (last : s.walker.position = s.walker.latches.geometry.last) :
    s.emitterStamped = s.completeFrame := by
  unfold State.emitterStamped
  rw [ending]
  exact if_pos last

/-- R48 step 1: a walker without a request asks for its find exactly when three levels are there. -/
theorem driveNext_asked (walking : s.walker.state = .walking) (ending : s.walker.ending = none)
    (free : s.arbiter.walker = none) :
    s.driveNext.arbiter.walker =
      if 3 ≤ s.walker.levels.length then some (.find s.walker.position) else none := by
  by_cases three : 3 ≤ s.walker.levels.length
  · rw [driveNext_of_ready walking ending free three, if_pos three]
    simp [State.askWalker_eq]
  · rw [driveNext_of_not_ready fun h => three h.2, if_neg three, free]

end

/-- R1, R48 step 6: the emitter after one, with the last column counted from 0. -/
theorem Geometry.after_eq (g : Geometry) (k : Key) :
    g.after k = if k.col < g.cols - 1 then ⟨k.row, k.col + 1⟩ else ⟨k.row + 1, 0⟩ :=
  if_congr (by omega) rfl rfl

/-- Settles O12: the emitter after one, then a find without and with a probed colour. -/
theorem walkerFindDrivesAnEmitter : Obligations.WalkerFindDrivesAnEmitter := by
  refine ⟨fun g k => ⟨rfl, g.after_eq k⟩,
    fun s k r g b rest hop walking ending levels more unprobed =>
      ⟨_, exec_walkerFind hop, ?_⟩,
    fun s k r g b rest hop ending levels probed => ⟨_, exec_walkerFind hop, ?_⟩⟩
  · obtain rfl : s.walker.levels.drop 3 = rest := by rw [levels]; rfl
    rw [emitterFound_of_more (s := s.quiet.complete .walker _) ending unprobed more]
    refine ⟨?_, State.driveNext_walker _,
      driveNext_asked walking ending (complete_walker_asked s.quiet s.table), ?_⟩
    · rw [driveNext_out]
      exact emitterCodes_of_levels (s := s.quiet.complete .walker s.table) levels
    · exact ((((unchangedBut_complete_same s .walker).trans (unchangedBut_driven _ _)).trans
        (unchangedBut_withWalker _ _)).trans (unchangedBut_driveNext _)).mono (by decide)
  · rw [emitterFound_of_probed (s := s.quiet.complete .walker _) ending probed]
    refine ⟨emitterCodes_of_levels (s := s.quiet.complete .walker s.table) levels, ?_, ?_,
      (((unchangedBut_complete_same s .walker).trans (unchangedBut_driven _ _)).trans
        (unchangedBut_askWalker _ _)).mono (by decide)⟩
    · rw [← s.walker.runningAfter_of_probed probed]
      rfl
    · simp only [State.askWalker_eq, State.withArbiter_arbiter, Arbiter.granted_walker]
      rfl

/-! ## The monitor's requests and the arbiter -/

theorem afterLoadEnd_arbiter (s : State) : s.afterLoadEnd.arbiter = s.arbiter := by
  unfold State.afterLoadEnd
  repeat' split
  all_goals rfl

/-- R68: a request that is taken asks the arbiter for nothing. -/
theorem takeAsk_arbiter (s : State) (a : MonitorAsk) : (s.takeAsk a).arbiter = s.arbiter := by
  cases a with
  | emptyList | setMonitor => rfl
  | suspects | clearSuspects => exact respondHand_arbiter ..
  | loadStart => exact (unchangedBut_afterLoadStart _).1 .arbiter (by decide)
  | loadEnd => exact afterLoadEnd_arbiter _

theorem askOfMonitor_arbiter (s : State) (a : MonitorAsk) :
    (s.askOfMonitor a).arbiter = s.arbiter := by
  have taken (l : List MonitorAsk) :
      ∀ u : State, (l.foldl State.takeAsk u).arbiter = u.arbiter := by
    induction l with
    | nil => exact fun u => rfl
    | cons a l ih => exact fun u => (ih _).trans (takeAsk_arbiter u a)
  unfold State.askOfMonitor
  dsimp only
  split
  · exact taken _ _
  · rfl

theorem loseVideo_arbiter (s : State) : s.loseVideo.arbiter = s.arbiter := askOfMonitor_arbiter _ _

/-! ## The frame is complete (R52, R53) -/

/-- R52: the frame is complete, before a held expiry is taken. -/
def State.frameDone (s : State) : State :=
  (s.withWalker { s.walker with
    state := .waiting, lastCompleted := some s.walker.frameNumber
    appliedCount := s.walker.running, levels := [] }).drive [.latch s.walker.frameNumber true]

theorem completeFrame_eq (s : State) :
    s.completeFrame =
      if s.walker.heldExpiry ∧ s.walker.held = false then s.frameDone.loseVideo
      else s.frameDone := rfl

theorem completeFrame_arbiter (s : State) : s.completeFrame.arbiter = s.arbiter := by
  rw [completeFrame_eq]
  split
  · exact loseVideo_arbiter _
  · rfl

theorem unchangedBut_frameDone (s : State) : UnchangedBut [.walker] s s.frameDone :=
  (unchangedBut_withWalker s _).trans (unchangedBut_drive _ _)

/-- R52, R53: a state in which only the walker's operation and the driving of the last emitter have happened goes on to complete the frame. -/
theorem frameCompleted_completeFrame {s u : State} {applied : Nat} {codes : List DriveItem}
    (frame : UnchangedBut [.table, .walker, .arbiter] s u)
    (geometry : u.table.geometry = s.table.geometry)
    (walker : u.walker = { s.walker with running := applied }) (sent : u.out.drive = codes) :
    FrameCompleted s applied codes u.completeFrame := by
  have monitor : u.monitor = s.monitor := frame.1 .monitor (by decide)
  have events : u.events = s.events := frame.1 .events (by decide)
  have done := frame.trans (unchangedBut_frameDone u)
  have latched : u.frameDone.out.drive = codes ++ [.latch s.walker.frameNumber true] := by
    rw [← sent, show s.walker.frameNumber = u.walker.frameNumber by rw [walker]]
    rfl
  have finished : u.frameDone.walker = { s.walker with
      state := .waiting, lastCompleted := some s.walker.frameNumber
      appliedCount := applied, running := applied, levels := [] } := by
    unfold State.frameDone
    rw [walker]
    rfl
  rw [completeFrame_eq, walker]
  refine ⟨fun stays => ?_, fun expiry unheld overdue => ?_⟩
  · rw [if_neg (by rintro ⟨expiry, unheld⟩; simp_all)]
    exact ⟨finished, latched, done.mono (by decide)⟩
  · rw [if_pos ⟨expiry, unheld⟩]
    obtain ⟨lost, lostEvents, drive, -, suspects, kept⟩ :=
      loseVideo_spec (s := u.frameDone) (show u.monitor.nothingOverdue from monitor ▸ overdue)
    refine ⟨?_, ?_, lostEvents.trans (congrArg (Events.raise · _) events), ?_,
      (done.trans kept).mono (by decide)⟩
    · rw [lost, finished, ← geometry]
      rfl
    · rw [drive, latched, List.append_assoc]
      rfl
    · unfold SuspectsCleared at suspects ⊢
      rwa [show u.frameDone.monitor = s.monitor from monitor] at suspects

/-- Settles O13: by the operation in which the last emitter has been driven. -/
theorem lastEmitterCompletesTheFrame : Obligations.LastEmitterCompletesTheFrame := by
  refine ⟨fun s k r g b rest hop ending levels last unprobed => ⟨_, exec_walkerFind hop, ?_⟩,
    fun s k f cs hop ending last => ⟨_, exec_stampProbeFrame hop, ?_⟩⟩
  · rw [emitterFound_of_last (s := s.quiet.complete .walker _) ending unprobed last]
    exact ⟨(keeps_completeFrame _).table, completeFrame_arbiter _,
      frameCompleted_completeFrame
        (((unchangedBut_complete s .walker _).trans (unchangedBut_driven _ _)).mono (by decide))
        rfl rfl (emitterCodes_of_levels (s := s.quiet.complete .walker s.table) levels)⟩
  · obtain ⟨-, -, -, geometry⟩ := s.table.settingsKept_stamp k f cs
    rw [emitterStamped_of_last (s := s.quiet.complete .walker _) ending last]
    exact ⟨(keeps_completeFrame _).table, completeFrame_arbiter _,
      frameCompleted_completeFrame ((unchangedBut_complete s .walker _).mono (by decide))
        geometry rfl rfl⟩

end Sys2Proof.Machine
end

section
/-! PROOFS. The fault monitor's step points (R68): the requests taken in their order, what each does (R79 to R85), and the commands that become such requests (R80 to R83). -/
namespace Sys2Proof.Machine

/-! ## A request as it is taken -/

section
variable (s : State)

theorem respondHand_withMonitor (m : Monitor) (code : ResultCode) (data : List Byte) :
    (s.withMonitor m).respondHand code data = (s.respondHand code data).withMonitor m := by
  unfold State.respondHand
  dsimp only [State.withMonitor_engine]
  split <;> rfl

theorem afterLoadStart_withMonitor (m : Monitor) :
    (s.withMonitor m).afterLoadStart = s.afterLoadStart.withMonitor m := by
  unfold State.afterLoadStart
  dsimp only [State.withMonitor_store]
  split <;> rfl

theorem afterLoadEnd_withMonitor (m : Monitor) :
    (s.withMonitor m).afterLoadEnd = s.afterLoadEnd.withMonitor m := by
  unfold State.afterLoadEnd
  dsimp only [State.withMonitor_store]
  repeat' split
  all_goals rfl

/-- R85: a store that is not loading has nothing to do at load start. -/
theorem afterLoadStart_of_other (other : s.store.state ≠ .loading) : s.afterLoadStart = s := by
  unfold State.afterLoadStart
  unfold Store.state at other
  split
  · simp_all
  all_goals rfl

/-- R85: nor at load end. -/
theorem afterLoadEnd_of_other (other : s.store.state ≠ .loading) : s.afterLoadEnd = s := by
  unfold State.afterLoadEnd
  unfold Store.state at other
  split
  · simp_all
  all_goals rfl

theorem unchangedBut_afterLoadEnd : UnchangedBut [.store, .events] s s.afterLoadEnd := by
  rw [unchangedBut_iff]
  unfold State.afterLoadEnd
  repeat' split
  all_goals simp [State.raise]

theorem unchangedBut_respond (via : Via) (code : ResultCode) (data : List Byte) :
    UnchangedBut [.engine] s (s.respond via code data) := by
  rw [unchangedBut_iff]
  simp

end

/-- R68: what a request that is taken makes of the monitor. -/
def Monitor.afterAsk (m : Monitor) : MonitorAsk → Monitor
  | .emptyList | .clearSuspects => { m with suspects := [] }
  | .loadStart => m.takeLoadStart
  | .loadEnd d h e => m.takeLoadEnd d h e
  | .setMonitor _ d h e => m.takeSettings d h e
  | .suspects => m

/-- R68: what the block that waits for a request does when it is taken. -/
def State.askServed (s : State) : MonitorAsk → State
  | .emptyList => s
  | .loadStart => s.afterLoadStart
  | .loadEnd _ _ _ => s.afterLoadEnd
  | .setMonitor via d h e => s.respond via .ok (monitorBytes d h e)
  | .suspects => s.respondHand .ok (suspectsAnswer s.monitor.suspects)
  | .clearSuspects => s.respondHand .ok [byte s.monitor.suspects.length]

/-- R68: taking a request is what it makes of the monitor and what the block that waits does. -/
theorem takeAsk_eq (s : State) (a : MonitorAsk) :
    s.takeAsk a = (s.askServed a).withMonitor (s.monitor.afterAsk a) := by
  cases a with
  | emptyList | setMonitor => rfl
  | suspects => exact respondHand_withMonitor s s.monitor _ _
  | clearSuspects => exact respondHand_withMonitor s _ _ _
  | loadStart => exact afterLoadStart_withMonitor s _
  | loadEnd => exact afterLoadEnd_withMonitor s _

theorem takeAsk_monitor (s : State) (a : MonitorAsk) :
    (s.takeAsk a).monitor = s.monitor.afterAsk a := by
  rw [takeAsk_eq]; rfl

/-- The block that waits sees only the suspect list of the monitor. -/
theorem askServed_withMonitor (s : State) {m : Monitor} (same : m.suspects = s.monitor.suspects)
    (a : MonitorAsk) : (s.withMonitor m).askServed a = (s.askServed a).withMonitor m := by
  cases a with
  | emptyList | setMonitor => rfl
  | suspects =>
    unfold State.askServed
    rw [State.withMonitor_monitor, same]
    exact respondHand_withMonitor s m _ _
  | clearSuspects =>
    unfold State.askServed
    rw [State.withMonitor_monitor, same]
    exact respondHand_withMonitor s m _ _
  | loadStart => exact afterLoadStart_withMonitor s m
  | loadEnd => exact afterLoadEnd_withMonitor s m

/-- R80, R81: SET_MONITOR with MONITOR_ENABLE as it was. -/
theorem Monitor.takeSettings_of_same {m : Monitor} {e : Bool} (d h : Nat) (same : e = m.enable) :
    m.takeSettings d h e = { m with debounce := d, healProbes := h } := by
  subst same
  exact if_pos rfl

/-- R80, R81: SET_MONITOR with MONITOR_ENABLE changed. -/
theorem Monitor.takeSettings_of_changed {m : Monitor} {e : Bool} (d h : Nat)
    (changed : e ≠ m.enable) :
    m.takeSettings d h e = { m with
      debounce := d, healProbes := h, enable := e, state := if e = true then .idle else .off
      suspects := [], buffer := none, inHand := none, entryPosition := 0, checkPosition := 0
      healPosition := none } := if_neg changed

/-- R68: a request does not look at those that still wait. -/
theorem afterAsk_withWaiting (m : Monitor) (l : List MonitorAsk) (a : MonitorAsk) :
    { m with waiting := l }.afterAsk a = { m.afterAsk a with waiting := l } := by
  cases a with
  | setMonitor via d h e =>
    show Monitor.takeSettings _ d h e = { m.takeSettings d h e with waiting := l }
    unfold Monitor.takeSettings
    dsimp only
    split <;> rfl
  | _ => rfl

theorem takeAsk_withWaiting (s : State) (l : List MonitorAsk) (a : MonitorAsk) :
    (s.withMonitor { s.monitor with waiting := l }).takeAsk a =
      (s.takeAsk a).withMonitor { (s.takeAsk a).monitor with waiting := l } := by
  rw [takeAsk_eq, takeAsk_eq, askServed_withMonitor s (m := { s.monitor with waiting := l }) rfl,
    State.withMonitor_monitor,
    afterAsk_withWaiting]
  rfl

/-! ## What a step point keeps of the monitor -/

/-- R68, R79 to R85: what taking requests can make of the monitor, but for its state and its settings: the report in hand stays, at its positions, or is dropped; the buffer is not filled; and the suspect list stays or is emptied. -/
structure TakesRequests (m m' : Monitor) : Prop where
  inHand : m'.inHand = none ∨ (m'.inHand = m.inHand ∧ m'.entryPosition = m.entryPosition ∧
    m'.checkPosition = m.checkPosition)
  buffer : m.buffer = none → m'.buffer = none
  suspects : m'.suspects = m.suspects ∨ m'.suspects = []

theorem TakesRequests.refl (m : Monitor) : TakesRequests m m := ⟨.inr ⟨rfl, rfl, rfl⟩, id, .inl rfl⟩

theorem TakesRequests.trans {m m' m'' : Monitor} (h : TakesRequests m m')
    (h' : TakesRequests m' m'') : TakesRequests m m'' where
  inHand := by
    obtain dropped | ⟨inHand, position, check⟩ := h'.inHand
    · exact .inl dropped
    · rw [inHand, position, check]; exact h.inHand
  buffer := h'.buffer ∘ h.buffer
  suspects := by
    obtain same | emptied := h'.suspects
    · rw [same]; exact h.suspects
    · exact .inr emptied

theorem takesRequests_afterAsk (m : Monitor) (a : MonitorAsk) : TakesRequests m (m.afterAsk a) := by
  cases a with
  | emptyList | clearSuspects => exact ⟨.inr ⟨rfl, rfl, rfl⟩, id, .inr rfl⟩
  | loadStart => exact ⟨.inl rfl, fun _ => rfl, .inr rfl⟩
  | loadEnd => exact ⟨.inr ⟨rfl, rfl, rfl⟩, id, .inl rfl⟩
  | suspects => exact .refl m
  | setMonitor via d h e =>
    show TakesRequests m (m.takeSettings d h e)
    by_cases same : e = m.enable
    · rw [Monitor.takeSettings_of_same d h same]; exact ⟨.inr ⟨rfl, rfl, rfl⟩, id, .inl rfl⟩
    · rw [Monitor.takeSettings_of_changed d h same]; exact ⟨.inl rfl, fun _ => rfl, .inr rfl⟩

theorem takesRequests_takeAsks (l : List MonitorAsk) :
    ∀ s : State, TakesRequests s.monitor (l.foldl State.takeAsk s).monitor := by
  induction l with
  | nil => exact fun s => .refl s.monitor
  | cons a l ih =>
    exact fun s => (takeAsk_monitor s a ▸ takesRequests_afterAsk s.monitor a).trans (ih _)

/-- A step point, from the monitor with its waiting requests set aside. -/
theorem takesRequests_stepPoint (s : State) : TakesRequests s.monitor s.stepPoint.monitor :=
  have aside : TakesRequests s.monitor { s.monitor with waiting := [] } :=
    ⟨.inr ⟨rfl, rfl, rfl⟩, id, .inl rfl⟩
  aside.trans (takesRequests_takeAsks s.monitor.waiting
    (s.withMonitor { s.monitor with waiting := [] }))

theorem afterAsk_waiting (m : Monitor) (a : MonitorAsk) : (m.afterAsk a).waiting = m.waiting := by
  have kept := congrArg Monitor.waiting (afterAsk_withWaiting m m.waiting a)
  exact kept

theorem takeAsks_waiting (l : List MonitorAsk) :
    ∀ s : State, (l.foldl State.takeAsk s).monitor.waiting = s.monitor.waiting := by
  induction l with
  | nil => exact fun s => rfl
  | cons a l ih =>
    intro s
    rw [List.foldl_cons, ih, takeAsk_monitor, afterAsk_waiting]

/-- R68: a step point leaves no request waiting. -/
theorem stepPoint_waiting (s : State) : s.stepPoint.monitor.waiting = [] := takeAsks_waiting _ _

/-- R68: a step point takes the oldest request and goes on with the others. -/
theorem stepPoint_of_waiting {s : State} {a : MonitorAsk} {rest : List MonitorAsk}
    (waiting : s.monitor.waiting = a :: rest) :
    s.stepPoint = ((s.withMonitor { s.monitor with waiting := rest }).takeAsk a).stepPoint := by
  have left : ((s.withMonitor { s.monitor with waiting := rest }).takeAsk a).monitor.waiting =
      rest := by
    rw [takeAsk_monitor, afterAsk_waiting]; rfl
  unfold State.stepPoint
  rw [waiting, left, List.foldl_cons, takeAsk_withWaiting, takeAsk_withWaiting]
  rfl

/-! ## The effect of each request (R79 to R85) -/

/-- R156: a store whose state is LOADING has the sequencing of a load. -/
theorem loading_of_state {st : Store} (loading : st.state = .loading) :
    ∃ w, st.work = .loading w := by
  unfold Store.state at loading
  split at loading
  · cases loading
  · cases loading
  · exact ⟨_, ‹_›⟩

/-- R85: load start, and the poll of a store that is loading. -/
theorem takeAsk_loadStart (s : State) :
    UnchangedBut [.monitor, .store] s (s.takeAsk .loadStart) ∧
    (s.store.state = .loading →
      (s.takeAsk .loadStart).store = { s.store with flash := .polling 400 } ∧
      (s.takeAsk .loadStart).out.flash = s.out.flash ++ [⟨[0x05], 1⟩]) ∧
    (s.store.state ≠ .loading → (s.takeAsk .loadStart).store = s.store) := by
  refine ⟨(unchangedBut_withMonitor s _).trans (unchangedBut_afterLoadStart _),
    fun loading => ?_, fun other => ?_⟩
  · obtain ⟨w, work⟩ := loading_of_state loading
    have polled : s.takeAsk .loadStart = (s.withMonitor s.monitor.takeLoadStart).poll 400 :=
      afterLoadStart_of_loading work
    rw [polled]
    exact ⟨rfl, rfl⟩
  · rw [takeAsk_eq]
    show s.afterLoadStart.store = s.store
    rw [afterLoadStart_of_other s other]

/-- R85, R166: load end, and the end of a store that is loading. -/
theorem takeAsk_loadEnd (s : State) (d h : Nat) (e : Bool) :
    UnchangedBut [.monitor, .store, .events] s (s.takeAsk (.loadEnd d h e)) ∧
    (∀ w, s.store.work = .loading w →
      (w.ended = some true → (s.takeAsk (.loadEnd d h e)).store = ⟨.idle, .loaded, .none, none⟩ ∧
        (s.takeAsk (.loadEnd d h e)).events = s.events.raise .storeDone) ∧
      (w.ended ≠ some true → (s.takeAsk (.loadEnd d h e)).store = ⟨.idle, .imageBad, .none, none⟩ ∧
        (s.takeAsk (.loadEnd d h e)).events = s.events.raise .imageBad)) ∧
    (s.store.state ≠ .loading → (s.takeAsk (.loadEnd d h e)).store = s.store ∧
      (s.takeAsk (.loadEnd d h e)).events = s.events) := by
  refine ⟨(unchangedBut_withMonitor s _).trans (unchangedBut_afterLoadEnd _),
    fun w work => ?_, fun other => ?_⟩
  · have ended : s.takeAsk (.loadEnd d h e) = _ :=
      afterLoadEnd_of_loading (s := s.withMonitor (s.monitor.takeLoadEnd d h e)) work
    rw [ended]
    refine ⟨fun good => ?_, fun bad => ?_⟩
    · rw [if_pos good]; exact ⟨rfl, rfl⟩
    · rw [if_neg bad]; exact ⟨rfl, rfl⟩
  · rw [takeAsk_eq]
    show s.afterLoadEnd.store = s.store ∧ s.afterLoadEnd.events = s.events
    rw [afterLoadEnd_of_other s other]
    exact ⟨rfl, rfl⟩

/-- Settles O25: the requests in their order, then each request by itself. -/
theorem stepPointTakesEveryRequest : Obligations.StepPointTakesEveryRequest := by
  refine ⟨fun s => ⟨stepPoint_waiting s, s.stepPoint_of_none, fun a rest => stepPoint_of_waiting⟩,
    ?_, ?_, ?_, ?_, ?_⟩
  · rintro s t rfl
    exact ⟨rfl, unchangedBut_withMonitor s _⟩
  · rintro s t rfl
    exact ⟨takeAsk_monitor s .loadStart, takeAsk_loadStart s⟩
  · rintro s t d h e rfl
    exact ⟨takeAsk_monitor s _, takeAsk_loadEnd s d h e⟩
  · rintro s t via d h e rfl
    exact ⟨rfl, ((unchangedBut_withMonitor s _).trans (unchangedBut_respond _ ..)).mono (by decide),
      fun same => Monitor.takeSettings_of_same d h same.symm,
      fun changed => Monitor.takeSettings_of_changed d h (Ne.symm changed)⟩
  · intro s t job hand unit
    refine ⟨?_, ?_⟩
    · rintro rfl
      exact ⟨handAnswered_respondHand rfl hand unit _ _, unchangedBut_respondHand s _ _⟩
    · rintro rfl
      exact ⟨handAnswered_respondHand (u := s.withMonitor { s.monitor with suspects := [] }) rfl
          hand unit _ _,
        takeAsk_monitor s .clearSuspects,
        ((unchangedBut_withMonitor s _).trans (unchangedBut_respondHand _ _ _)).mono (by decide)⟩

/-! ## Commands that become requests (R80 to R83) -/

/-- R66, R68: a monitor at rest. -/
theorem Monitor.atRest_iff (m : Monitor) : m.atRest = true ↔ m.state = .idle ∨ m.state = .off := by
  simp [Monitor.atRest]

/-- R185: the suspect entry, field by field. -/
theorem suspectBytes_eq (e : Suspect) : suspectBytes e = [byte e.key.row, byte e.key.col,
    (match e.colour with
      | .red => 0
      | .green => 1
      | .blue => 2), byte e.count,
    byte ((match e.kind with
      | .openCircuit => 0
      | .shortCircuit => 1) + (match e.state with
      | .counting => 0
      | .held => 2))] := by
  obtain ⟨_, colour, _, _, _, _⟩ := e
  cases colour <;> rfl

theorem monitorSettingsValid_iff (d h e : Nat) :
    monitorSettingsValid d h e = true ↔ 2 ≤ d ∧ d ≤ 32 ∧ 1 ≤ h ∧ h ≤ 15 ∧ e ≤ 1 := by
  simp only [monitorSettingsValid, Bool.and_eq_true, decide_eq_true_eq, and_assoc]
  exact Iff.rfl

/-- R80: the settings of SET_MONITOR are answered in the bytes that carried them. -/
theorem monitorBytes_of_bytes (d h : Byte) {e : Byte} (le : e.toNat ≤ 1) :
    monitorBytes d.toNat h.toNat (e.toNat == 1) = [d, h, e] := by
  have bytes (b : Byte) : byte b.toNat = b := by simp [byte]
  have enable : presence (e.toNat == 1) = e := by
    obtain zero | one := Nat.le_one_iff_eq_zero_or_eq_one.mp le
    · rw [zero]; exact (BitVec.eq_of_toNat_eq zero).symm
    · rw [one]; exact (BitVec.eq_of_toNat_eq one).symm
  unfold monitorBytes
  rw [bytes, bytes, enable]

/-- R177: the state in which a command that waits for the monitor is in hand. -/
def State.executing (s : State) (via : Via) (code : Byte) : State :=
  (s.taken via code).takeInHand code via

theorem executing_engine (s : State) (via : Via) (code : Byte) :
    (s.executing via code).engine =
      ⟨some ⟨code, via, none⟩, (s.acceptWrite via).engine.answer, .none⟩ := by
  show Engine.mk _ (s.taken via code).engine.answer (s.taken via code).engine.write = _
  rw [taken_engine]

theorem executing_monitor (s : State) (via : Via) (code : Byte) :
    (s.executing via code).monitor = s.monitor :=
  (unchangedBut_taken s via code).1 .monitor (by decide)

theorem unchangedBut_executing (s : State) (via : Via) (code : Byte) :
    UnchangedBut [.engine, .events] s (s.executing via code) := by
  have taken : UnchangedBut [.engine] (s.taken via code) (s.executing via code) := by
    rw [unchangedBut_iff]
    simp [State.executing, State.takeInHand]
  exact ((unchangedBut_taken s via code).trans taken).mono (by decide)

/-- R68: with no request overdue, a command's request is taken at once at rest and waits otherwise. -/
theorem exec_posts {s : State} {c : Instr} {via : Via} {code : Byte} {body : State → State}
    {a : MonitorAsk} (hs : s.refusesWrite via = false) (overdue : s.monitor.nothingOverdue)
    (hc : exec c s = .next (s.quiet.takeCommand via code body))
    (hb : body (s.taken via code) = (s.executing via code).askOfMonitor a) :
    exec c s = .next
      (if s.monitor.atRest then (s.executing via code).takeAsk a
        else (s.executing via code).withMonitor
          { s.monitor with waiting := s.monitor.waiting ++ [a] }) := by
  rw [takeCommand_of_taken s via code body hs] at hc
  rw [hc, show body ((s.acceptWrite via).quiet.bus _) = _ from hb]
  have monitor := executing_monitor s via code
  cases rest : s.monitor.atRest with
  | true => rw [askOfMonitor_of_rest (monitor ▸ rest) (monitor ▸ overdue rest)]; rfl
  | false => rw [askOfMonitor_of_busy (monitor ▸ rest), monitor]; rfl

section
variable (s : State) (via : Via) (code : Byte)

/-- R177: a request that waits leaves its command in hand. -/
theorem executing_of_waiting (m : Monitor) :
    Executing s via code ((s.executing via code).withMonitor m) := executing_engine s via code

theorem unchangedBut_waiting (m : Monitor) :
    UnchangedBut [.engine, .monitor, .events] s ((s.executing via code).withMonitor m) :=
  ((unchangedBut_executing s via code).trans (unchangedBut_withMonitor _ m)).mono (by decide)

end

/-- R80, R81: SET_MONITOR taken at rest. -/
theorem answered_setMonitor (s : State) (via : Via) (d h : Nat) (e : Bool) :
    Answered s via .ok (monitorBytes d h e)
      ((s.executing via 0x12).takeAsk (.setMonitor via d h e)) := by
  show Engine.mk none (match via with
    | .unit => some ⟨.ok, monitorBytes d h e⟩
    | .group => (s.executing via 0x12).engine.answer) (s.executing via 0x12).engine.write = _
  rw [executing_engine]
  cases via <;> rfl

/-- R82, R83: an answer to a unit command that the monitor has taken. -/
theorem answered_respondHand (s : State) (code : Byte) (m : Monitor) (result : ResultCode)
    (data : List Byte) :
    Answered s .unit result data
      (((s.executing .unit code).respondHand result data).withMonitor m) := by
  have hand : (s.executing .unit code).engine.hand = some ⟨code, .unit, none⟩ := by
    rw [executing_engine]
  unfold Answered
  rw [State.withMonitor_engine, State.respondHand_of_hand _ _ _ _ hand, State.respond_engine,
    executing_engine]

theorem unchangedBut_answered (s : State) (code : Byte) (m : Monitor) (result : ResultCode)
    (data : List Byte) :
    UnchangedBut [.engine, .monitor, .events] s
      (((s.executing .unit code).respondHand result data).withMonitor m) :=
  (((unchangedBut_executing s .unit code).trans (unchangedBut_respondHand _ _ _)).trans
    (unchangedBut_withMonitor _ m)).mono (by decide)

/-- R80, R81: SET_MONITOR, out of range, in range at rest, and in range with a report in hand. -/
theorem setMonitor_isTaken (via : Via) (d h e : Byte) {s : State}
    (hs : s.refusesWrite via = false) (overdue : s.monitor.nothingOverdue) :
    ∃ t, exec (.setMonitor via d h e) s = .next t ∧
    t.events = (s.acceptWrite via).events ∧
    (¬ (2 ≤ d.toNat ∧ d.toNat ≤ 32 ∧ 1 ≤ h.toNat ∧ h.toNat ≤ 15 ∧ e.toNat ≤ 1) →
      Answered s via .badField [] t ∧ UnchangedBut [.engine, .events] s t) ∧
    (2 ≤ d.toNat ∧ d.toNat ≤ 32 ∧ 1 ≤ h.toNat ∧ h.toNat ≤ 15 ∧ e.toNat ≤ 1 →
      UnchangedBut [.engine, .monitor, .events] s t ∧
      (s.monitor.atRest = true →
        Answered s via .ok [d, h, e] t ∧
        t.monitor = s.monitor.takeSettings d.toNat h.toNat (e.toNat == 1)) ∧
      (s.monitor.atRest = false →
        Executing s via 0x12 t ∧ t.monitor = { s.monitor with waiting := s.monitor.waiting ++
          [.setMonitor via d.toNat h.toNat (e.toNat == 1)] })) := by
  rw [← monitorSettingsValid_iff]
  by_cases valid : monitorSettingsValid d.toNat h.toNat e.toNat = true
  · refine ⟨_, exec_posts hs overdue rfl (if_pos valid), ?_⟩
    obtain ⟨-, -, -, -, le⟩ := (monitorSettingsValid_iff ..).mp valid
    cases rest : s.monitor.atRest with
    | true =>
      rw [if_pos rfl]
      refine ⟨rfl, fun bad => absurd valid bad, fun _ => ⟨?_, fun _ => ⟨?_, ?_⟩, nofun⟩⟩
      · exact (((unchangedBut_executing s via 0x12).trans (unchangedBut_withMonitor _ _)).trans
          (unchangedBut_respond _ _ _ _)).mono (by decide)
      · rw [← monitorBytes_of_bytes d h le]
        exact answered_setMonitor ..
      · rw [takeAsk_monitor, executing_monitor]
        rfl
    | false =>
      rw [if_neg Bool.false_ne_true]
      exact ⟨rfl, fun bad => absurd valid bad, fun _ => ⟨unchangedBut_waiting .., nofun,
        fun _ => ⟨executing_of_waiting .., rfl⟩⟩⟩
  · obtain ⟨t, ht, answered, events, frame⟩ :=
      exec_answers (c := .setMonitor via d h e) hs rfl (if_neg valid)
    exact ⟨t, ht, events, fun _ => ⟨answered, frame⟩, fun good => absurd good valid⟩

/-- R82: SUSPECTS, at rest and with a report in hand. -/
theorem suspects_isTaken {s : State} (hs : s.refusesWrite .unit = false)
    (overdue : s.monitor.nothingOverdue) :
    ∃ t, exec .suspects s = .next t ∧ t.events = (s.acceptWrite .unit).events ∧
      (s.monitor.atRest = true →
        Answered s .unit .ok (suspectsAnswer s.monitor.suspects) t ∧
          UnchangedBut [.engine, .events] s t) ∧
      (s.monitor.atRest = false → Executing s .unit 0x28 t ∧
        t.monitor = { s.monitor with waiting := s.monitor.waiting ++ [.suspects] } ∧
        UnchangedBut [.engine, .monitor, .events] s t) := by
  refine ⟨_, exec_posts (code := 0x28) (a := .suspects) hs overdue rfl rfl, ?_⟩
  cases rest : s.monitor.atRest with
  | true =>
    rw [if_pos rfl, show (s.executing .unit 0x28).takeAsk .suspects =
      (s.executing .unit 0x28).respondHand .ok (suspectsAnswer s.monitor.suspects) by
        rw [← executing_monitor s .unit 0x28]; rfl]
    exact ⟨respondHand_events .., fun _ => ⟨answered_respondHand s 0x28 _ _ _,
      ((unchangedBut_executing s .unit 0x28).trans (unchangedBut_respondHand _ _ _)).mono
        (by decide)⟩, nofun⟩
  | false =>
    rw [if_neg Bool.false_ne_true]
    exact ⟨rfl, nofun, fun _ => ⟨executing_of_waiting .., rfl, unchangedBut_waiting ..⟩⟩

/-- R83: CLEAR_SUSPECTS, at rest and with a report in hand. -/
theorem clearSuspects_isTaken {s : State} (hs : s.refusesWrite .unit = false)
    (overdue : s.monitor.nothingOverdue) :
    ∃ t, exec .clearSuspects s = .next t ∧ t.events = (s.acceptWrite .unit).events ∧
      UnchangedBut [.engine, .monitor, .events] s t ∧
      (s.monitor.atRest = true →
        Answered s .unit .ok [byte s.monitor.suspects.length] t ∧
        t.monitor = { s.monitor with suspects := [] }) ∧
      (s.monitor.atRest = false → Executing s .unit 0x29 t ∧
        t.monitor = { s.monitor with waiting := s.monitor.waiting ++ [.clearSuspects] }) := by
  refine ⟨_, exec_posts (code := 0x29) (a := .clearSuspects) hs overdue rfl rfl, ?_⟩
  cases rest : s.monitor.atRest with
  | true =>
    have monitor := executing_monitor s .unit 0x29
    rw [if_pos rfl, takeAsk_eq, monitor]
    unfold State.askServed
    rw [monitor]
    exact ⟨respondHand_events .., unchangedBut_answered s 0x29 _ _ _,
      fun _ => ⟨answered_respondHand s 0x29 _ _ _, rfl⟩, nofun⟩
  | false =>
    rw [if_neg Bool.false_ne_true]
    exact ⟨rfl, unchangedBut_waiting .., nofun, fun _ => ⟨executing_of_waiting .., rfl⟩⟩

/-- Settles O24: the monitor at rest, the suspect entry, and each of the three commands. -/
theorem monitorCommandsAreTaken : Obligations.MonitorCommandsAreTaken := by
  refine ⟨Monitor.atRest_iff, suspectBytes_eq, fun via d h e s hs overdue => ?_,
    fun s hs overdue => ⟨suspects_isTaken hs overdue, clearSuspects_isTaken hs overdue⟩⟩
  obtain ⟨t, ht, events, bad, good⟩ := setMonitor_isTaken via d h e hs overdue
  refine ⟨t, ht, events, bad, fun valid => ?_⟩
  obtain ⟨frame, taken, waits⟩ := good valid
  refine ⟨frame, fun rest => ?_, waits⟩
  obtain ⟨answered, monitor⟩ := taken rest
  refine ⟨answered, fun same => ?_, fun changed => ?_⟩
  · rw [monitor]
    exact Monitor.takeSettings_of_same _ _ same.symm
  · rw [monitor]
    refine (Monitor.takeSettings_of_changed _ _ (Ne.symm changed)).trans ?_
    simp

end Sys2Proof.Machine
end

section
/-! PROOFS. The course of a report (R64 to R71, R78, R79): how it is taken in hand, what follows each entry, and how it ends. -/
namespace Sys2Proof.Machine

/-! ## The entries (R71) -/

/-- R71: the three cases in which an entry is ignored. -/
theorem countedEntry_eq_none_iff (g : Geometry) (before : Option ReportEntry) (e : ReportEntry) :
    countedEntry g before e = none ↔
      (¬ g.contains ⟨e.row.toNat, e.col.toNat⟩ ∨ e.colour = none ∨ e.kind = none ∨
        ∃ b, before = some b ∧ b.row = e.row ∧ b.col = e.col ∧ b.colour = e.colour) := by
  have repeated : (before.map (sameChannel e)).getD false = true ↔
      ∃ b, before = some b ∧ b.row = e.row ∧ b.col = e.col ∧ b.colour = e.colour := by
    cases before with
    | none => simp
    | some b =>
      rw [Option.map_some, Option.getD_some]
      simp only [sameChannel, Bool.and_eq_true, beq_iff_eq, and_assoc]
      exact ⟨fun ⟨row, col, colour⟩ => ⟨b, rfl, row.symm, col.symm, colour.symm⟩,
        by rintro ⟨_, ⟨⟩, row, col, colour⟩; exact ⟨row.symm, col.symm, colour.symm⟩⟩
  unfold countedEntry
  cases colour : e.colour with
  | none => simp
  | some c =>
    rw [colour] at repeated
    cases e.kind with
    | none => simp
    | some kind =>
      dsimp only
      rw [ite_eq_right_iff]
      simp only [reduceCtorEq, imp_false]
      rw [not_and_or, Bool.not_eq_false, repeated]
      simp [keyOf]

/-- R71: an entry that is not ignored is counted as what it names. -/
theorem countedEntry_eq_some {g : Geometry} {before : Option ReportEntry} {e : ReportEntry}
    {k : Key} {c : Colour} {kind : FaultKind} (h : countedEntry g before e = some (k, c, kind)) :
    k = ⟨e.row.toNat, e.col.toNat⟩ ∧ e.colour = some c ∧ e.kind = some kind := by
  unfold countedEntry at h
  split at h
  · split at h
    · cases h
      exact ⟨rfl, ‹_›, ‹_›⟩
    · cases h
  · cases h

theorem entryBefore_eq (r : Report) (n : Nat) : entryBefore r n = placeBefore r.entries n := by
  cases n <;> rfl

/-- The entries from a place on, of which the first is known. -/
theorem drop_of_getElem? {es : List ReportEntry} {n : Nat} {e : ReportEntry}
    (h : es[n]? = some e) : es.drop n = e :: es.drop (n + 1) := by
  obtain ⟨lt, rfl⟩ := List.getElem?_eq_some_iff.mp h
  exact List.drop_eq_getElem_cons lt

/-- R78: the monitor with the suspects that a report leaves in the list. -/
def Monitor.unseenRemoved (m : Monitor) (r : Report) : Monitor :=
  { m with suspects :=
      if r.truncated = true then m.suspects
      else m.suspects.filter (fun x => x.lastFrame = r.frame) }

theorem Monitor.unseenRemoved_sublist (m : Monitor) (r : Report) :
    (m.unseenRemoved r).suspects.Sublist m.suspects := by
  unfold Monitor.unseenRemoved
  dsimp only
  split
  · exact .refl _
  · exact List.filter_sublist

/-- R78: a truncated report removes no suspect. -/
theorem Monitor.unseenRemoved_of_truncated (m : Monitor) {r : Report}
    (truncated : r.truncated = true) :
    m.unseenRemoved r = m := by
  unfold Monitor.unseenRemoved
  rw [if_pos truncated]

theorem Monitor.unseenRemoved_of_complete (m : Monitor) {r : Report}
    (complete : r.truncated = false) :
    m.unseenRemoved r =
      { m with suspects := m.suspects.filter (fun x => x.lastFrame = r.frame) } := by
  unfold Monitor.unseenRemoved
  rw [if_neg (by simp [complete])]

/-- R71: the step point after an entry, and the entries that follow if the report is still in hand. -/
def State.entryPassed (onEnd : State → State) (s : State) : State :=
  let passed := (s.withMonitor
    { s.monitor with entryPosition := s.monitor.entryPosition + 1 }).stepPoint
  if passed.monitor.inHand.isNone then passed else passed.continueEntries onEnd

theorem entryHandled_eq (s : State) : s.entryHandled = s.entryPassed State.endReport := rfl

section
variable {onEnd : State → State} {s : State} {r : Report} (inHand : s.monitor.inHand = some r)
include inHand

/-- R72: at an entry that is not ignored its fault update is asked for. -/
theorem continueEntries_of_counted {k : Key} {c : Colour} {kind : FaultKind}
    (counted : CountedAt s.table.geometry r.entries s.monitor.entryPosition (k, c, kind)) :
    s.continueEntries onEnd = s.askMonitor (.faultUpdate k c kind r.frame) := by
  obtain ⟨e, he, hc⟩ := counted
  unfold State.continueEntries
  rw [inHand]
  dsimp only
  rw [drop_of_getElem? he, entryBefore_eq]
  unfold State.handleEntries
  rw [inHand, hc]

/-- R71: an ignored entry is passed. -/
theorem continueEntries_of_ignored
    (ignored : IgnoredAt s.table.geometry r.entries s.monitor.entryPosition) :
    s.continueEntries onEnd = s.entryPassed onEnd := by
  obtain ⟨e, he, hc⟩ := ignored
  unfold State.continueEntries
  rw [inHand]
  dsimp only
  rw [drop_of_getElem? he, entryBefore_eq]
  unfold State.handleEntries
  rw [inHand, hc]
  unfold State.entryPassed
  dsimp only
  generalize hp : (s.withMonitor
    { s.monitor with entryPosition := s.monitor.entryPosition + 1 }).stepPoint = passed
  have kept := hp ▸ (takesRequests_stepPoint (s.withMonitor
    { s.monitor with entryPosition := s.monitor.entryPosition + 1 })).inHand
  obtain dropped | ⟨same, position, -⟩ := kept
  · rw [if_pos (by rw [dropped]; rfl), if_pos (by rw [dropped]; rfl)]
  · rw [State.withMonitor_monitor] at same position
    unfold State.continueEntries
    rw [same, inHand]
    dsimp only
    rw [position, show entryBefore r (s.monitor.entryPosition + 1) = some e from he]

/-- R78: past the last entry the entries are done. -/
theorem continueEntries_of_done (done : r.entries.length ≤ s.monitor.entryPosition) :
    s.continueEntries onEnd = s.finishEntries onEnd := by
  unfold State.continueEntries
  rw [inHand]
  dsimp only
  rw [List.drop_eq_nil_of_le done]
  rfl

/-- R78: unseen suspects are removed, the moment is a step point, and the report goes on to its heal pass or its end. -/
theorem finishEntries_eq {u : State}
    (hu : u = (s.withMonitor (s.monitor.unseenRemoved r)).stepPoint) :
    s.finishEntries onEnd =
      if u.monitor.inHand = none then u
      else if r.truncated = true then onEnd u
      else (u.withMonitor { u.monitor with state := .healing, healPosition := none }).askMonitor
        (.heal none r.frame u.monitor.latchedHealProbes) := by
  subst hu
  unfold State.finishEntries
  rw [inHand]
  simp only [Option.isNone_iff_eq_none]
  rfl

end

/-! ## What the course keeps -/

/-- R69: the suspects that are left keep the laws of the list. -/
theorem Monitor.suspectsLawful_of_sublist {m m' : Monitor} (h : m.suspectsLawful)
    (left : m'.suspects.Sublist m.suspects) : m'.suspectsLawful := by
  obtain ⟨capacity, different, counts⟩ := h
  exact ⟨left.length_le.trans capacity, different.sublist left,
    fun e he => counts e (left.subset he)⟩

theorem TakesRequests.sublist {m m' : Monitor} (h : TakesRequests m m') :
    m'.suspects.Sublist m.suspects := by
  obtain same | emptied := h.suspects
  · exact same ▸ .refl _
  · exact emptied ▸ List.nil_sublist _

theorem unchangedBut_askMonitor (s : State) (r : MonitorReq) :
    UnchangedBut [.arbiter] s (s.askMonitor r) := by
  rw [unchangedBut_iff]
  simp [State.askMonitor_eq]

/-- What the course of a report does, with the step points on its way: it leaves no request waiting or none other than before in the same state, it keeps the laws of the suspect list (R69), and with no request waiting it acts on the monitor and the arbiter alone. -/
structure InCourse (s t : State) : Prop where
  waits : t.monitor.waiting = [] ∨
    (t.monitor.state = s.monitor.state ∧ t.monitor.waiting = s.monitor.waiting)
  suspects : s.monitor.suspectsLawful → t.monitor.suspectsLawful
  frame : s.monitor.waiting = [] → UnchangedBut [.monitor, .arbiter] s t

theorem InCourse.refl (s : State) : InCourse s s :=
  ⟨.inr ⟨rfl, rfl⟩, id, fun _ => (unchangedBut_iff _ s s).mpr (by simp)⟩

/-- R68: with no request waiting none comes to wait. -/
theorem InCourse.waiting {s t : State} (h : InCourse s t) (none : s.monitor.waiting = []) :
    t.monitor.waiting = [] := by
  obtain taken | ⟨-, same⟩ := h.waits
  · exact taken
  · exact same.trans none

theorem InCourse.trans {s t u : State} (h : InCourse s t) (h' : InCourse t u) : InCourse s u where
  waits := by
    obtain taken | ⟨state, same⟩ := h'.waits
    · exact .inl taken
    · rw [state, same]; exact h.waits
  suspects := h'.suspects ∘ h.suspects
  frame none := ((h.frame none).trans (h'.frame (h.waiting none))).mono (by decide)

/-- A change of the monitor that keeps its state, its waiting requests and its suspects, or leaves some of these out. -/
theorem inCourse_withMonitor {s : State} (m : Monitor)
    (state : m.state = s.monitor.state := by rfl)
    (waiting : m.waiting = s.monitor.waiting := by rfl)
    (left : m.suspects.Sublist s.monitor.suspects := by exact .refl _) :
    InCourse s (s.withMonitor m) where
  waits := .inr ⟨state, waiting⟩
  suspects h := Monitor.suspectsLawful_of_sublist h left
  frame _ := (unchangedBut_withMonitor s m).mono (by decide)

/-- A change of the monitor, of its state too, that is followed by a step point. -/
theorem inCourse_settled {s : State} (m : Monitor)
    (waiting : m.waiting = s.monitor.waiting := by rfl)
    (left : m.suspects.Sublist s.monitor.suspects := by exact .refl _) :
    InCourse s (s.withMonitor m).stepPoint where
  waits := .inl (stepPoint_waiting _)
  suspects h := Monitor.suspectsLawful_of_sublist h
    ((takesRequests_stepPoint (s.withMonitor m)).sublist.trans left)
  frame none := by
    rw [State.stepPoint_of_none _ (waiting.trans none)]
    exact (unchangedBut_withMonitor s m).mono (by decide)

theorem inCourse_askMonitor (s : State) (r : MonitorReq) : InCourse s (s.askMonitor r) where
  waits := .inr ⟨rfl, rfl⟩
  suspects := id
  frame _ := (unchangedBut_askMonitor s r).mono (by decide)

theorem inCourse_monitorIdle (s : State) : InCourse s s.monitorIdle := inCourse_settled _

theorem inCourse_abandonReport (s : State) : InCourse s s.abandonReport := inCourse_settled _

section
variable {onEnd : State → State} (hEnd : ∀ s, InCourse s (onEnd s))
include hEnd

theorem inCourse_finishEntries (s : State) : InCourse s (s.finishEntries onEnd) := by
  cases inHand : s.monitor.inHand with
  | none =>
    unfold State.finishEntries
    rw [inHand]
    exact .refl s
  | some r =>
    generalize hu : (s.withMonitor (s.monitor.unseenRemoved r)).stepPoint = u
    have removed : InCourse s u := hu ▸ inCourse_settled _ rfl (s.monitor.unseenRemoved_sublist r)
    have taken : u.monitor.waiting = [] := hu ▸ stepPoint_waiting _
    rw [finishEntries_eq inHand hu.symm]
    split
    · exact removed
    · split
      · exact removed.trans (hEnd u)
      · exact removed.trans (InCourse.trans (t := u.withMonitor { u.monitor with
          state := .healing, healPosition := none })
          ⟨.inl taken, id, fun _ => (unchangedBut_withMonitor _ _).mono (by decide)⟩
          (inCourse_askMonitor _ _))

theorem inCourse_handleEntries (es : List ReportEntry) :
    ∀ (before : Option ReportEntry) (s : State), InCourse s (s.handleEntries onEnd before es) := by
  induction es with
  | nil =>
    intro before s
    rw [State.handleEntries]
    exact inCourse_finishEntries hEnd s
  | cons e es ih =>
    intro before s
    unfold State.handleEntries
    split
    · exact .refl s
    · exact inCourse_askMonitor s _
    · dsimp only
      split
      · exact inCourse_settled _
      · exact (inCourse_settled _).trans (ih _ _)

theorem inCourse_continueEntries (s : State) : InCourse s (s.continueEntries onEnd) := by
  unfold State.continueEntries
  split
  · exact .refl s
  · exact inCourse_handleEntries hEnd _ _ _

theorem inCourse_checkSuspects (s : State) : InCourse s (s.checkSuspects onEnd) := by
  unfold State.checkSuspects
  split
  · exact inCourse_askMonitor s _
  · exact inCourse_continueEntries hEnd s

theorem inCourse_takeReport (r : Report) (s : State) : InCourse s (s.takeReport onEnd r) := by
  unfold State.takeReport
  dsimp only
  split
  · exact inCourse_settled _
  · exact (inCourse_settled _).trans (inCourse_checkSuspects hEnd _)

end

theorem inCourse_endReport (s : State) : InCourse s s.endReport := by
  unfold State.endReport
  split
  · exact inCourse_monitorIdle s
  · exact (inCourse_withMonitor _).trans (inCourse_takeReport inCourse_monitorIdle _ _)

theorem inCourse_entryHandled (s : State) : InCourse s s.entryHandled := by
  unfold State.entryHandled
  dsimp only
  split
  · exact inCourse_settled _
  · exact (inCourse_settled _).trans (inCourse_continueEntries inCourse_endReport _)

/-! ## The entries with no request waiting -/

section
variable {onEnd : State → State} {s : State} {r : Report} (inHand : s.monitor.inHand = some r)
  (waiting : s.monitor.waiting = [])
include inHand waiting

/-- R78: a truncated report removes no suspect. -/
theorem finishEntries_of_truncated (truncated : r.truncated = true) :
    s.finishEntries onEnd = onEnd s := by
  have same : (s.withMonitor (s.monitor.unseenRemoved r)).stepPoint = s := by
    rw [s.monitor.unseenRemoved_of_truncated truncated]
    exact s.stepPoint_of_none waiting
  rw [finishEntries_eq inHand same.symm, if_neg (by simp [inHand]), if_pos truncated]

/-- R78, R92: a complete report removes unseen suspects and begins its heal pass. -/
theorem finishEntries_of_complete (complete : r.truncated = false) :
    s.finishEntries onEnd = (s.withMonitor { s.monitor with
      suspects := s.monitor.suspects.filter (fun x => x.lastFrame = r.frame)
      state := .healing, healPosition := none }).askMonitor
        (.heal none r.frame s.monitor.latchedHealProbes) := by
  have removed : (s.withMonitor (s.monitor.unseenRemoved r)).stepPoint =
      s.withMonitor { s.monitor with
        suspects := s.monitor.suspects.filter (fun x => x.lastFrame = r.frame) } := by
    rw [s.monitor.unseenRemoved_of_complete complete]
    exact State.stepPoint_of_none _ waiting
  rw [finishEntries_eq inHand removed.symm, if_neg (by simp [inHand]), if_neg (by simp [complete])]
  rfl

end


/-- R71: a report in hand at an entry position. -/
def State.atEntry (s : State) (n : Nat) : State :=
  s.withMonitor { s.monitor with entryPosition := n }

section
variable {onEnd : State → State} {s : State} {r : Report} (waiting : s.monitor.waiting = [])
include waiting

/-- R71: with no request waiting an entry passed only moves the position. -/
theorem entryPassed_of_none (inHand : s.monitor.inHand = some r) :
    s.entryPassed onEnd = (s.atEntry (s.monitor.entryPosition + 1)).continueEntries onEnd := by
  have settled : (s.withMonitor
      { s.monitor with entryPosition := s.monitor.entryPosition + 1 }).stepPoint =
      s.atEntry (s.monitor.entryPosition + 1) := State.stepPoint_of_none _ waiting
  unfold State.entryPassed
  rw [settled]
  exact if_neg (by simp [State.atEntry, inHand])

/-- R71: so the ignored entries up to a place are passed. -/
theorem continueEntries_past_ignored (inHand : s.monitor.inHand = some r) {n : Nat}
    (le : s.monitor.entryPosition ≤ n)
    (ignored : ∀ m, s.monitor.entryPosition ≤ m → m < n →
      IgnoredAt s.table.geometry r.entries m) :
    s.continueEntries onEnd = (s.atEntry n).continueEntries onEnd := by
  induction n, le using Nat.le_induction with
  | base => rfl
  | succ n le ih =>
    rw [ih fun m first before => ignored m first (by omega),
      continueEntries_of_ignored (s := s.atEntry n) inHand (ignored n le n.lt_succ_self),
      entryPassed_of_none (s := s.atEntry n) waiting inHand]
    rfl

/-- R66, R79: the end of a report with none buffered. -/
theorem endReport_of_none (buffer : s.monitor.buffer = none) :
    s.endReport = s.withMonitor
      { s.monitor with state := .idle, inHand := none, healPosition := none } := by
  unfold State.endReport
  rw [buffer]
  exact State.stepPoint_of_none _ waiting

/-- R71, R78: a report in hand goes on with its entries. -/
theorem entriesGoOn_continueEntries (inHand : s.monitor.inHand = some r) :
    EntriesGoOn r s (s.continueEntries State.endReport) := by
  refine ⟨fun n k c kind le counted ignored => ?_, fun ignored => ?_⟩
  · rw [continueEntries_past_ignored waiting inHand le ignored,
      continueEntries_of_counted (s := s.atEntry n) inHand counted]
    exact ⟨rfl, by simp [State.askMonitor_eq],
      ((unchangedBut_withMonitor s _).trans (unchangedBut_askMonitor _ _)).mono (by decide)⟩
  · have last := le_max_left s.monitor.entryPosition r.entries.length
    rw [continueEntries_past_ignored waiting inHand last
        fun m first before => ignored m first (by omega),
      continueEntries_of_done (s := s.atEntry (max s.monitor.entryPosition r.entries.length)) inHand
        (le_max_right _ _)]
    refine ⟨fun complete => ?_, fun truncated buffer => ?_⟩
    · rw [finishEntries_of_complete (s := s.atEntry (max _ _)) inHand waiting complete]
      exact ⟨rfl, by simp [State.askMonitor_eq, State.atEntry],
        (((unchangedBut_withMonitor s _).trans (unchangedBut_withMonitor _ _)).trans
          (unchangedBut_askMonitor _ _)).mono (by decide)⟩
    · rw [finishEntries_of_truncated (s := s.atEntry (max _ _)) inHand waiting truncated,
        endReport_of_none (s := s.atEntry (max _ _)) waiting buffer]
      exact ⟨rfl, ((unchangedBut_withMonitor s _).trans (unchangedBut_withMonitor _ _)).mono
        (by decide)⟩

end

/-- Settles O16: the entries ignored, the step point after an entry, and the monitor at its entry position. -/
theorem handledEntryLeadsOn : Obligations.HandledEntryLeadsOn := by
  refine ⟨countedEntry_eq_none_iff, fun _ _ _ _ _ _ => countedEntry_eq_some, ?_,
    fun s r inHand => ⟨fun k c kind => continueEntries_of_counted inHand,
      continueEntries_of_ignored inHand, ?_⟩, fun s r inHand waiting => ⟨?_, ?_⟩⟩
  · rintro s u rfl
    refine ⟨fun dropped => if_pos (by rw [dropped]; rfl), fun kept => if_neg ?_⟩
    rwa [Option.isNone_iff_eq_none]
  · intro done u hu
    rw [continueEntries_of_done inHand done, finishEntries_eq inHand hu]
    refine ⟨fun dropped => if_pos dropped, fun kept truncated => ?_, fun kept complete => ?_⟩
    · rw [if_neg kept, if_pos truncated]
    · rw [if_neg kept, if_neg (by simp [complete])]
  · exact entriesGoOn_continueEntries waiting inHand
  · rw [entryHandled_eq, entryPassed_of_none waiting inHand]
    exact entriesGoOn_continueEntries (s := s.atEntry (s.monitor.entryPosition + 1)) waiting inHand

/-! ## The suspect check (R70) -/

/-- R79 case 1: an operation that kept the table is complete, and its outcome drops the report. -/
theorem reportDropped_completed (s : State) :
    ReportDropped s ((s.quiet.complete .monitor s.table).withMonitor
      (s.monitor.dropReports .idle)) :=
  ⟨rfl, rfl, ((unchangedBut_complete_same s .monitor).trans (unchangedBut_withMonitor _ _)).mono
    (by decide)⟩

/-- The completion of a find of the suspect check, with its outcome still to be acted on. -/
theorem exec_monitorFind {s : State} {k : Key} (hop : s.arbiter.monitorOp = some (.find k)) :
    exec .findByKey s =
      .next ((s.quiet.complete .monitor s.table).suspectChecked (s.table.monitorFind k)) := by
  obtain ⟨inProgress, -⟩ := Arbiter.monitorOp_eq_some_iff.mp hop
  have walker : s.arbiter.walkerOp = none := if_neg (by simp [inProgress])
  have engine : s.arbiter.engineOp = none := if_neg (by simp [inProgress])
  show execFindByKey s = _
  unfold execFindByKey
  rw [walker, engine, hop]

theorem Table.monitorFind_of_loading {t : Table} (k : Key) (loading : t.state = .loading) :
    t.monitorFind k = .loading := by
  unfold Table.monitorFind; rw [loading]

theorem Table.monitorFind_of_absent {t : Table} {k : Key} (ready : t.state = .ready)
    (absent : t.find k = none) : t.monitorFind k = .none := by
  unfold Table.monitorFind; rw [ready, absent]

theorem Table.monitorFind_of_found {t : Table} {k : Key} {r : Record} (ready : t.state = .ready)
    (found : t.find k = some r) : t.monitorFind k = .found r := by
  unfold Table.monitorFind; rw [ready, found]

section
variable {onEnd : State → State} {s : State}

/-- R70: the next suspect of the check asks for its find. -/
theorem checkSuspects_of_some {e : Suspect}
    (next : s.monitor.suspects[s.monitor.checkPosition]? = some e) :
    s.checkSuspects onEnd = s.askMonitor (.find e.key) := by
  unfold State.checkSuspects; rw [next]

/-- R70: past the last suspect the check ends with the entries. -/
theorem checkSuspects_of_none (next : s.monitor.suspects[s.monitor.checkPosition]? = none) :
    s.checkSuspects onEnd = s.continueEntries onEnd := by
  unfold State.checkSuspects; rw [next]

end

/-- Settles O17: by the table's state, and by whether the suspect's key has a record. -/
theorem suspectCheckRemovesFiledSuspects : Obligations.SuspectCheckRemovesFiledSuspects := by
  refine fun s k hop => ⟨fun loading => ⟨_, reportDropped_completed s, ?_⟩, fun ready => ?_⟩
  · rw [exec_monitorFind hop, Table.monitorFind_of_loading k loading]
    rfl
  · have changed := fun m => ((unchangedBut_complete_same s .monitor).trans
      (unchangedBut_withMonitor _ m)).mono (cs := [.monitor, .arbiter]) (by decide)
    rw [exec_monitorFind hop]
    cases record : s.table.find k with
    | none =>
      rw [Table.monitorFind_of_absent ready record]
      exact ⟨_, rfl, fun _ => rfl, fun filed => absurd rfl filed, rfl, changed _,
        fun _ => checkSuspects_of_some, checkSuspects_of_none⟩
    | some r =>
      rw [Table.monitorFind_of_found ready record]
      exact ⟨_, rfl, nofun, fun _ => rfl, rfl, changed _,
        fun _ => checkSuspects_of_some, checkSuspects_of_none⟩

/-! ## A report arrives or ends (R64, R66, R67, R70, R79) -/

/-- R70: the monitor as it takes a report in hand. -/
def Monitor.withReport (m : Monitor) (r : Report) : Monitor :=
  { m with
    state := .processing, inHand := some r, latchedDebounce := m.debounce
    latchedHealProbes := m.healProbes, entryPosition := 0, checkPosition := 0
    healPosition := none }

/-- R70: a report taken in hand, a step point, and the suspect check if it still is. -/
theorem takeReport_eq {onEnd : State → State} {r : Report} {s u : State}
    (hu : u = (s.withMonitor (s.monitor.withReport r)).stepPoint) :
    s.takeReport onEnd r =
      if u.monitor.inHand = none then u else u.checkSuspects onEnd := by
  subst hu
  unfold State.takeReport
  simp only [Option.isNone_iff_eq_none]
  rfl

/-- R70: a report that the step point leaves in hand begins with the oldest suspect. -/
theorem takeReport_of_suspects {onEnd : State → State} {r : Report} {s u : State}
    (hu : u = (s.withMonitor (s.monitor.withReport r)).stepPoint) (kept : u.monitor.inHand ≠ none)
    {e : Suspect} {es : List Suspect} (suspects : u.monitor.suspects = e :: es) :
    s.takeReport onEnd r = u.askMonitor (.find e.key) := by
  have inHand := hu ▸ (takesRequests_stepPoint (s.withMonitor (s.monitor.withReport r))).inHand
  obtain ⟨-, -, check⟩ := inHand.resolve_left kept
  rw [takeReport_eq hu, if_neg kept]
  exact checkSuspects_of_some (by rw [check, suspects]; rfl)

/-- R70: with no suspect it begins with its entries. -/
theorem takeReport_of_no_suspects {onEnd : State → State} {r : Report} {s u : State}
    (hu : u = (s.withMonitor (s.monitor.withReport r)).stepPoint) (kept : u.monitor.inHand ≠ none)
    (suspects : u.monitor.suspects = []) :
    s.takeReport onEnd r = u.continueEntries onEnd := by
  rw [takeReport_eq hu, if_neg kept]
  exact checkSuspects_of_none (by rw [suspects]; rfl)

section
variable {s : State} (r : Report)

/-- R67: a report that arrives in OFF is discarded. -/
theorem reportArrives_of_off (off : s.monitor.state = .off) : s.reportArrives r = s := by
  unfold State.reportArrives; rw [off]

/-- R67, R85: so is one that arrives in IDLE while a load is in progress. -/
theorem reportArrives_of_mark (idle : s.monitor.state = .idle) (mark : s.monitor.loadMark = true) :
    s.reportArrives r = s := by
  unfold State.reportArrives; rw [idle]; exact if_pos mark

/-- R67: an IDLE monitor takes the report in hand. -/
theorem reportArrives_of_idle (idle : s.monitor.state = .idle)
    (unmarked : s.monitor.loadMark = false) :
    s.reportArrives r = s.takeReport State.endReport (keptReport r) := by
  unfold State.reportArrives; rw [idle]; exact if_neg (by simp [unmarked])

/-- R67: with a report in hand the next one waits in the buffer, and one more is an overrun. -/
theorem reportArrives_of_busy (busy : s.monitor.state = .processing ∨ s.monitor.state = .healing) :
    s.reportArrives r =
      if s.monitor.buffer = none then s.withMonitor { s.monitor with buffer := some (keptReport r) }
      else s.raise .reportOverrun := by
  unfold State.reportArrives
  obtain state | state := busy
  all_goals
    rw [state]
    cases s.monitor.buffer <;> rfl

end

/-! ## The buffered report (R66, R79) -/

section
variable {f g : State → State} (agree : ∀ s : State, s.monitor.buffer = none → f s = g s)
include agree

theorem finishEntries_congr {s : State} (empty : s.monitor.buffer = none) :
    s.finishEntries f = s.finishEntries g := by
  cases inHand : s.monitor.inHand with
  | none =>
    unfold State.finishEntries
    rw [inHand]
  | some r =>
    generalize hu : (s.withMonitor (s.monitor.unseenRemoved r)).stepPoint = u
    have still : u.monitor.buffer = none := hu ▸ (takesRequests_stepPoint _).buffer empty
    rw [finishEntries_eq inHand hu.symm, finishEntries_eq inHand hu.symm, agree u still]

theorem handleEntries_congr (es : List ReportEntry) :
    ∀ (before : Option ReportEntry) (s : State), s.monitor.buffer = none →
      s.handleEntries f before es = s.handleEntries g before es := by
  induction es with
  | nil => exact fun before s empty => finishEntries_congr agree empty
  | cons e es ih =>
    intro before s empty
    unfold State.handleEntries
    split
    · rfl
    · rfl
    · dsimp only
      rw [ih]
      exact (takesRequests_stepPoint _).buffer empty

theorem checkSuspects_congr {s : State} (empty : s.monitor.buffer = none) :
    s.checkSuspects f = s.checkSuspects g := by
  unfold State.checkSuspects State.continueEntries
  split
  · rfl
  · split
    · rfl
    · exact handleEntries_congr agree _ _ s empty

theorem takeReport_congr {s : State} (r : Report) (empty : s.monitor.buffer = none) :
    s.takeReport f r = s.takeReport g r := by
  rw [takeReport_eq rfl, takeReport_eq rfl, checkSuspects_congr agree]
  exact (takesRequests_stepPoint _).buffer empty

end

/-- R66, R79: at the end of a report the buffered one is taken in hand as any other: its own end finds the buffer empty, and the monitor IDLE. -/
theorem endReport_of_buffered {s : State} {r : Report} (buffered : s.monitor.buffer = some r) :
    s.endReport =
      (s.withMonitor { s.monitor with buffer := none }).takeReport State.endReport r := by
  have agree : ∀ s : State, s.monitor.buffer = none → s.monitorIdle = s.endReport := by
    intro s empty
    unfold State.endReport
    rw [empty]
  show _ = State.takeReport State.endReport r _
  rw [← takeReport_congr agree]
  · conv_lhs => unfold State.endReport
    rw [buffered]
  · rfl

/-- A report goes on alike from a state in which a command has only begun. -/
theorem entriesGoOn_of_quiet {r : Report} {u t : State} (h : EntriesGoOn r u.quiet t) :
    EntriesGoOn r u t := by
  have frame {bs : List Block} (kept : UnchangedBut bs u.quiet t) : UnchangedBut bs u t :=
    (unchangedBut_quiet u).trans kept
  obtain ⟨counted, ignored⟩ := h
  refine ⟨fun n k c kind le at_n before => ?_, fun all => ?_⟩
  · obtain ⟨monitor, asked, kept⟩ := counted n k c kind le at_n before
    exact ⟨monitor, asked, frame kept⟩
  · obtain ⟨complete, truncated⟩ := ignored all
    refine ⟨fun whole => ?_, fun short empty => ?_⟩
    · obtain ⟨monitor, asked, kept⟩ := complete whole
      exact ⟨monitor, asked, frame kept⟩
    · obtain ⟨monitor, kept⟩ := truncated short empty
      exact ⟨monitor, frame kept⟩

/-- R64, R67, R70: a report that an IDLE monitor takes in hand with no request waiting. -/
theorem reportArrives_inHand {s : State} (r : Report) (idle : s.monitor.state = .idle)
    (unmarked : s.monitor.loadMark = false) (waiting : s.monitor.waiting = []) :
    (∀ e es, s.monitor.suspects = e :: es →
      (s.reportArrives r).monitor = s.monitor.withReport (keptReport r) ∧
      (s.reportArrives r).arbiter.monitor = some (.find e.key)) ∧
    (s.monitor.suspects = [] →
      EntriesGoOn (keptReport r) (s.withMonitor (s.monitor.withReport (keptReport r)))
        (s.reportArrives r)) := by
  have settled := (State.stepPoint_of_none
    (s.withMonitor (s.monitor.withReport (keptReport r))) waiting).symm
  rw [reportArrives_of_idle r idle unmarked]
  refine ⟨fun e es suspects => ?_, fun none => ?_⟩
  · rw [takeReport_of_suspects settled nofun suspects]
    exact ⟨rfl, by simp [State.askMonitor_eq]⟩
  · rw [takeReport_of_no_suspects settled nofun none]
    exact entriesGoOn_continueEntries (s := s.withMonitor _) waiting rfl

/-- Settles O15: the report as it arrives, as it is taken in hand, and the buffered one. -/
theorem faultReportIsTakenOrNot : Obligations.FaultReportIsTakenOrNot := by
  refine ⟨fun r s => ⟨_, rfl, fun off => ?_, fun idle mark => ?_, fun busy => ?_⟩,
    fun r kept s idle unmarked waiting hkept => ?_, fun r s u hu => ⟨fun dropped => ?_,
      fun inHand => ⟨fun e es => takeReport_of_suspects hu inHand,
        takeReport_of_no_suspects hu inHand⟩⟩,
    fun s => ⟨fun empty => ?_, fun b => endReport_of_buffered⟩⟩
  · rw [reportArrives_of_off (s := s.quiet) r off]
    exact unchangedBut_quiet s
  · rw [reportArrives_of_mark (s := s.quiet) r idle mark]
    exact unchangedBut_quiet s
  · rw [reportArrives_of_busy (s := s.quiet) r busy]
    refine ⟨fun empty => ?_, fun full => ?_⟩
    · rw [if_pos (show s.quiet.monitor.buffer = none from empty)]
      exact ⟨rfl, (unchangedBut_quiet s).trans (unchangedBut_withMonitor _ _)⟩
    · rw [if_neg (show ¬ s.quiet.monitor.buffer = none from full)]
      exact ⟨rfl, (unchangedBut_quiet s).trans (unchangedBut_raise _ _)⟩
  · subst hkept
    obtain ⟨suspects, none⟩ := reportArrives_inHand (s := s.quiet) r idle unmarked waiting
    have frame := (inCourse_takeReport inCourse_endReport (keptReport r) s.quiet).frame waiting
    rw [← reportArrives_of_idle (s := s.quiet) r idle unmarked] at frame
    exact ⟨_, rfl, (unchangedBut_quiet s).trans frame, _, rfl, suspects,
      fun h => entriesGoOn_of_quiet (none h)⟩
  · rw [takeReport_eq hu, if_pos dropped]
  · unfold State.endReport
    rw [empty]
    rfl

end Sys2Proof.Machine
end

section
/-! PROOFS. The suspect list (R69, R73 to R76): what the monitor does on each outcome of a fault update (R72) and of a promotion insert (R76). -/
namespace Sys2Proof.Machine

/-! ## The channel of a suspect -/

theorem Suspect.names_eq (e : Suspect) (k : Key) (c : Colour) :
    e.names k c = decide (e.key = k ∧ e.colour = c) := by
  rw [Bool.eq_iff_iff]
  simp [Suspect.names]

theorem setSuspect_eq (k : Key) (c : Colour) (g : Suspect → Suspect) (l : List Suspect) :
    setSuspect k c g l = l.map fun x => if x.key = k ∧ x.colour = c then g x else x := by
  unfold setSuspect
  simp only [Suspect.names_eq, decide_eq_true_eq]

theorem dropSuspect_eq (k : Key) (c : Colour) (l : List Suspect) :
    dropSuspect k c l = l.filter fun x => ¬ (x.key = k ∧ x.colour = c) := by
  unfold dropSuspect
  simp only [Suspect.names_eq, decide_not]

theorem Monitor.counting_iff (m : Monitor) (k : Key) (c : Colour) :
    m.counting k c = true ↔
      ∃ x ∈ m.suspects, x.key = k ∧ x.colour = c ∧ x.state = .counting := by
  simp [Monitor.counting, Suspect.names, and_assoc]

theorem unchangedBut_setSuspects (s : State) (l : List Suspect) :
    UnchangedBut [.monitor] s (s.setSuspects l) := unchangedBut_withMonitor s _

theorem unchangedBut_withEvents (s : State) (e : Events) :
    UnchangedBut [.events] s (s.withEvents e) := by
  rw [unchangedBut_iff]
  simp

/-! ## The channel of an entry without a record (R73, R74) -/

section
variable {s : State} {k : Key} {c : Colour} (kind : FaultKind) (f : FrameNo)

/-- R73: a suspect counted to DEBOUNCE or beyond asks for its promotion. -/
theorem suspectNamed_of_reached {e : Suspect}
    (found : s.monitor.suspects.find? (fun x => x.key = k ∧ x.colour = c) = some e)
    (reached : s.monitor.latchedDebounce ≤ (e.counted kind f).count) :
    s.suspectNamed k c kind f =
      (s.setSuspects (setSuspect k c (fun x => x.counted kind f) s.monitor.suspects)).askMonitor
        (.promote k c kind f) := by
  unfold State.suspectNamed
  simp only [Suspect.names_eq]
  rw [found]
  exact if_pos reached

/-- R73: a suspect counted below DEBOUNCE is COUNTING, and the entry is handled. -/
theorem suspectNamed_of_below {e : Suspect}
    (found : s.monitor.suspects.find? (fun x => x.key = k ∧ x.colour = c) = some e)
    (below : ¬ s.monitor.latchedDebounce ≤ (e.counted kind f).count) :
    s.suspectNamed k c kind f =
      (s.setSuspects (setSuspect k c (fun x => { x.counted kind f with state := .counting })
        s.monitor.suspects)).entryHandled := by
  unfold State.suspectNamed
  simp only [Suspect.names_eq]
  rw [found]
  exact if_neg below

/-- R74: a channel that is no suspect becomes one if the list has room. -/
theorem suspectNamed_of_absent
    (absent : s.monitor.suspects.find? (fun x => x.key = k ∧ x.colour = c) = none) :
    s.suspectNamed k c kind f =
      (if 16 ≤ s.monitor.suspects.length then s.raise .suspectFull
        else s.setSuspects
          (s.monitor.suspects ++ [⟨k, c, kind, 1, f, .counting⟩])).entryHandled := by
  unfold State.suspectNamed
  simp only [Suspect.names_eq]
  rw [absent, apply_ite State.entryHandled]
  rfl

end

/-! ## The outcome of a fault update (R72, R79) -/

/-- R26: only a table that is LOADING answers so. -/
theorem Table.loading_of_faultUpdate {t : Table} {k : Key} {c : Colour} {kind : FaultKind}
    {f : FrameNo} (h : (t.faultUpdate k c kind f).2 = .loading) : t.state = .loading := by
  cases state : t.state with
  | loading => rfl
  | ready =>
    cases found : t.find k with
    | none =>
      rw [Table.faultUpdate_of_absent c kind f state found] at h
      cases h
    | some r =>
      rw [Table.faultUpdate_of_found c kind f state found, Table.countOn_outcome] at h
      split_ifs at h

/-- R72: what an outcome with a record found raises. -/
def UpdateOutcome.told (o : UpdateOutcome) (k : Key) (ev : Events) : Events :=
  match o with
  | .extended => { ev.raise .promoted with promotedKey := some k }
  | .notDetected => { ev.raise .recordFault with recordFaultKey := some k }
  | .loading | .none | .extensionSkipped | .updated => ev

/-- R72: an outcome with a record found raises its event, and the entry is handled. -/
theorem faultUpdated_of_record (s : State) (k : Key) (c : Colour) (kind : FaultKind) (f : FrameNo)
    {o : UpdateOutcome} (ready : o ≠ .loading) (found : o ≠ .none) :
    s.faultUpdated k c kind f o = (s.withEvents (o.told k s.events)).entryHandled := by
  cases o with
  | loading => exact absurd rfl ready
  | none => exact absurd rfl found
  | _ => rfl

/-- R72, R79: the outcomes of a fault update but for none. -/
theorem faultUpdate_isActedOn {s : State} {k : Key} {c : Colour} {kind : FaultKind} {f : FrameNo}
    (hop : s.arbiter.monitorOp = some (.faultUpdate k c kind f)) :
    ((s.table.faultUpdate k c kind f).2 = .loading →
      ∃ u, ReportDropped s u ∧ exec .faultUpdate s = .next u.stepPoint) ∧
    ((s.table.faultUpdate k c kind f).2 ≠ .loading → (s.table.faultUpdate k c kind f).2 ≠ .none →
      ∃ u, exec .faultUpdate s = .next u.entryHandled ∧ Completed s .monitor u ∧
        UnchangedBut [.table, .arbiter, .events] s u ∧
        u.events = (s.table.faultUpdate k c kind f).2.told k s.events) := by
  refine ⟨fun loading => ⟨_, reportDropped_completed s, ?_⟩, fun ready found => ?_⟩
  · rw [exec_faultUpdate hop,
      Table.faultUpdate_of_loading c kind f (Table.loading_of_faultUpdate loading)]
    rfl
  · rw [exec_faultUpdate hop, faultUpdated_of_record _ k c kind f ready found]
    exact ⟨_, rfl, rfl, ((unchangedBut_complete s .monitor _).trans
      (unchangedBut_withEvents _ _)).mono (by decide), rfl⟩

/-- R72 to R74: a fault update that finds no record leaves the table, and its channel is named to the suspect list. -/
theorem exec_faultUpdate_of_absent {s : State} {k : Key} {c : Colour} {kind : FaultKind}
    {f : FrameNo} (hop : s.arbiter.monitorOp = some (.faultUpdate k c kind f))
    (ready : s.table.state = .ready) (absent : s.table.find k = none) :
    exec .faultUpdate s =
      .next ((s.quiet.complete .monitor s.table).suspectNamed k c kind f) := by
  rw [exec_faultUpdate hop, Table.faultUpdate_of_absent c kind f ready absent]
  rfl

/-- Settles O19: the outcomes with a record, then the suspect counted, counted up to DEBOUNCE, appended or left out. -/
theorem faultUpdateOutcomeIsActedOn : Obligations.FaultUpdateOutcomeIsActedOn := by
  refine ⟨fun s k c kind f hop => ?_, fun s k c kind f hop ready absent => ?_⟩
  · obtain ⟨loading, acted⟩ := faultUpdate_isActedOn hop
    refine ⟨loading, fun hready hfound => ?_⟩
    obtain ⟨u, exec, completed, frame, events⟩ := acted hready hfound
    refine ⟨u, exec, completed, frame, fun o => ?_, fun o => ?_, fun o => ?_⟩
    · rw [events, o]; rfl
    · rw [events, o]; rfl
    · obtain o | o := o <;> rw [events, o] <;> rfl
  · rw [exec_faultUpdate_of_absent hop ready absent]
    generalize hv : s.quiet.complete .monitor s.table = v
    have monitor : v.monitor = s.monitor := by rw [← hv]; rfl
    have events : v.events = s.events := by rw [← hv]; rfl
    have completed : Completed s .monitor v := by rw [← hv]; rfl
    have frame : UnchangedBut [.arbiter] s v := hv ▸ unchangedBut_complete_same s .monitor
    have changed := fun l => (frame.trans (unchangedBut_setSuspects v l)).mono
      (cs := [.monitor, .arbiter]) (by decide)
    rw [← monitor, ← events]
    refine ⟨fun e found => ⟨fun reached => ⟨_, rfl, ?_⟩, fun below => ?_⟩, fun none => ?_⟩
    · rw [suspectNamed_of_reached kind f found reached, setSuspect_eq]
      exact ⟨rfl, by simp [State.askMonitor_eq], ((changed _).trans
        (unchangedBut_askMonitor _ _)).mono (by decide)⟩
    · rw [suspectNamed_of_below kind f found below, setSuspect_eq]
      exact ⟨_, rfl, rfl, completed, changed _⟩
    · rw [suspectNamed_of_absent kind f none]
      refine ⟨_, rfl, ?_⟩
      split
      · exact ⟨completed, fun room => by omega, fun _ => ⟨rfl,
          (frame.trans (unchangedBut_raise v _)).mono (by decide)⟩⟩
      · exact ⟨completed, fun _ => ⟨rfl, changed _⟩, fun full => by omega⟩

/-! ## The outcome of a promotion insert (R76) -/

/-- R23: only a table that is LOADING answers so. -/
theorem Table.loading_of_promote {t : Table} {k : Key} {c : Colour} {kind : FaultKind}
    {f : FrameNo} (h : (t.promote k c kind f).2 = .loading) : t.state = .loading := by
  cases state : t.state with
  | loading => rfl
  | ready =>
    unfold Table.promote at h
    rw [state] at h
    dsimp only at h
    split at h
    · cases h
    · split at h
      · cases h
      · split_ifs at h

/-- R76: whether a promotion insert leaves its suspect HELD. -/
def PromotionOutcome.holds : PromotionOutcome → Bool
  | .heldBySave | .full => true
  | .loading | .outside | .inserted | .merged _ => false

/-- R76: the suspect list after the outcome of a promotion insert. -/
def PromotionOutcome.settles (o : PromotionOutcome) (k : Key) (c : Colour) (l : List Suspect) :
    List Suspect :=
  if o.holds then l.map fun x => if x.key = k ∧ x.colour = c then { x with state := .held } else x
  else l.filter fun x => ¬ (x.key = k ∧ x.colour = c)

/-- R76: what the outcome raises, with whether the suspect was COUNTING. -/
def PromotionOutcome.told (o : PromotionOutcome) (counting : Bool) (k : Key) (ev : Events) :
    Events :=
  match o with
  | .inserted => { ev.raise .promoted with promotedKey := some k }
  | .merged u => u.told k ev
  | .full => if counting then ev.raise .tableFull else ev
  | .loading | .outside | .heldBySave => ev

/-- R76: the suspect is held or leaves, the outcome raises its event, and the entry is handled. -/
theorem promotionAnswered_eq (s : State) (k : Key) (c : Colour) {o : PromotionOutcome}
    (ready : o ≠ .loading) :
    s.promotionAnswered k c o =
      ((s.setSuspects (o.settles k c s.monitor.suspects)).withEvents
        (o.told (s.monitor.counting k c) k s.events)).entryHandled := by
  have held : s.holdSuspect k c = s.setSuspects (s.monitor.suspects.map fun x =>
      if x.key = k ∧ x.colour = c then { x with state := .held } else x) :=
    congrArg s.setSuspects (setSuspect_eq ..)
  have filed : s.filed k c =
      s.setSuspects (s.monitor.suspects.filter fun x => ¬ (x.key = k ∧ x.colour = c)) :=
    congrArg s.setSuspects (dropSuspect_eq ..)
  cases o with
  | loading => exact absurd rfl ready
  | heldBySave => exact congrArg State.entryHandled held
  | full =>
    unfold State.promotionAnswered
    rw [held]
    unfold PromotionOutcome.told
    dsimp only
    split <;> rfl
  | outside => exact congrArg State.entryHandled filed
  | inserted =>
    unfold State.promotionAnswered
    rw [filed]
    rfl
  | merged u =>
    unfold State.promotionAnswered
    rw [filed]
    cases u <;> rfl

/-- Settles O21: the report dropped, or the suspect held or filed with the event of the outcome. -/
theorem promotionOutcomeIsActedOn : Obligations.PromotionOutcomeIsActedOn := by
  refine fun s k c kind f hop =>
    ⟨fun loading => ⟨_, reportDropped_completed s, ?_⟩, fun ready => ?_⟩
  · rw [exec_promotionInsert hop,
      Table.promote_of_loading c kind f (Table.loading_of_promote loading)]
    rfl
  · rw [exec_promotionInsert hop, promotionAnswered_eq _ k c ready]
    generalize (s.table.promote k c kind f).2 = o
    refine ⟨_, rfl, rfl, ?_, fun unheld room => ?_, fun held => ?_, ?_⟩
    · exact (((unchangedBut_complete s .monitor _).trans (unchangedBut_setSuspects _ _)).trans
        (unchangedBut_withEvents _ _)).mono (by decide)
    · cases o with
      | heldBySave => exact absurd rfl unheld
      | full => exact absurd rfl room
      | _ => rfl
    · obtain rfl | rfl := held <;> rfl
    · show o.told (s.monitor.counting k c) k s.events = _
      simp only [← Monitor.counting_iff]
      cases o with
      | full => cases s.monitor.counting k c <;> rfl
      | merged u => cases u <;> rfl
      | _ => rfl

end Sys2Proof.Machine
end

section
/-! PROOFS. The laws of the monitor under every command (R68, R69): the suspect list's capacity, channels and counts, and no request overdue. -/
namespace Sys2Proof.Machine

/-! ## The laws under a change of the monitor -/

/-- R68, R69: what every operation but a hard reset does to the laws of the monitor. -/
structure KeepsMonitor (s t : State) : Prop where
  suspects : s.monitor.suspectsLawful → t.monitor.suspectsLawful
  overdue : s.monitor.nothingOverdue → t.monitor.nothingOverdue

theorem KeepsMonitor.of_same {s t : State} (same : t.monitor = s.monitor) : KeepsMonitor s t :=
  ⟨fun h => same ▸ h, fun h => same ▸ h⟩

theorem KeepsMonitor.refl (s : State) : KeepsMonitor s s := .of_same rfl

theorem KeepsMonitor.trans {s t u : State} (h : KeepsMonitor s t) (h' : KeepsMonitor t u) :
    KeepsMonitor s u :=
  ⟨h'.suspects ∘ h.suspects, h'.overdue ∘ h.overdue⟩

/-- What is done first may leave the monitor as it was. -/
theorem KeepsMonitor.after {s t u : State} (h : KeepsMonitor t u)
    (same : t.monitor = s.monitor := by rfl) : KeepsMonitor s u := (of_same same).trans h

/-- What leaves the monitor's block keeps its laws. -/
theorem KeepsMonitor.of_frame {bs : List Block} {s t : State} (h : UnchangedBut bs s t)
    (other : Block.monitor ∉ bs := by decide) : KeepsMonitor s t :=
  .of_same (h.1 .monitor other)

/-- R68: a monitor left with no request waiting has none overdue, and one in the same state with the same requests none more. -/
theorem InCourse.keepsMonitor {s t : State} (h : InCourse s t) : KeepsMonitor s t where
  suspects := h.suspects
  overdue hs := by
    obtain taken | ⟨state, same⟩ := h.waits
    · exact fun _ => taken
    · unfold Monitor.nothingOverdue Monitor.atRest
      rw [state, same]
      exact hs

/-- R68, R79 to R85: a request of another block is taken at once at rest, and waits otherwise. -/
theorem keepsMonitor_askOfMonitor (s : State) (a : MonitorAsk) :
    KeepsMonitor s (s.askOfMonitor a) := by
  unfold State.askOfMonitor
  dsimp only
  split
  · exact ⟨fun h => Monitor.suspectsLawful_of_sublist h (takesRequests_stepPoint (s.withMonitor
      { s.monitor with waiting := s.monitor.waiting ++ [a] })).sublist,
      fun _ _ => stepPoint_waiting _⟩
  · rename_i busy
    exact ⟨id, fun _ rest => absurd rest busy⟩

/-! ## The suspect list (R69, R73 to R76) -/

section
variable {m : Monitor} (h : m.suspectsLawful) (k : Key) (c : Colour)
include h

/-- R73, R76: a suspect that keeps its channel, with a count in its range. -/
theorem suspectsLawful_setSuspect {g : Suspect → Suspect}
    (channel : ∀ e, (g e).key = e.key ∧ (g e).colour = e.colour)
    (count : ∀ e, 1 ≤ e.count ∧ e.count ≤ 32 → 1 ≤ (g e).count ∧ (g e).count ≤ 32) :
    { m with suspects := setSuspect k c g m.suspects }.suspectsLawful := by
  obtain ⟨capacity, different, counts⟩ := h
  have kept (e : Suspect) : (if e.names k c then g e else e).key = e.key ∧
      (if e.names k c then g e else e).colour = e.colour := by
    split
    · exact channel e
    · exact ⟨rfl, rfl⟩
  refine ⟨(List.length_map _).trans_le capacity, ?_, ?_⟩
  · refine List.pairwise_map.mpr (different.imp fun {a b} apart => ?_)
    obtain ⟨keyA, colourA⟩ := kept a
    obtain ⟨keyB, colourB⟩ := kept b
    rwa [keyA, colourA, keyB, colourB]
  · refine List.forall_mem_map.mpr fun e he => ?_
    split
    · exact count e (counts e he)
    · exact counts e he

/-- R74: a new suspect of a channel that no suspect has, in a list with room. -/
theorem suspectsLawful_append (kind : FaultKind) (f : FrameNo)
    (absent : m.suspects.find? (fun e => e.names k c) = none) (room : m.suspects.length < 16) :
    { m with suspects := m.suspects ++ [Suspect.mk k c kind 1 f .counting] }.suspectsLawful := by
  obtain ⟨-, different, counts⟩ := h
  have apart : ∀ e ∈ m.suspects, ¬ (e.key = k ∧ e.colour = c) := fun e he => by
    have unnamed := List.find?_eq_none.mp absent e he
    rwa [Suspect.names_eq, decide_eq_true_eq] at unnamed
  refine ⟨?_, ?_, ?_⟩
  · rw [List.length_append]
    exact room
  · refine List.pairwise_append.mpr ⟨different, List.pairwise_singleton _ _, fun e he x hx => ?_⟩
    rw [List.mem_singleton.mp hx]
    exact apart e he
  · intro e he
    obtain old | new := List.mem_append.mp he
    · exact counts e old
    · rw [List.mem_singleton.mp new]
      exact ⟨le_rfl, show 1 ≤ 32 by decide⟩

end

/-- R73: a count stays in its range. -/
theorem Suspect.counted_count (e : Suspect) (kind : FaultKind) (f : FrameNo)
    (h : 1 ≤ e.count ∧ e.count ≤ 32) :
    1 ≤ (e.counted kind f).count ∧ (e.counted kind f).count ≤ 32 := by
  show 1 ≤ (if e.kind = kind then min (e.count + 1) 32 else 1) ∧
    (if e.kind = kind then min (e.count + 1) 32 else 1) ≤ 32
  split <;> omega

/-- The suspect list changes, and keeps its laws. -/
theorem keepsMonitor_setSuspects {s : State} {l : List Suspect}
    (h : s.monitor.suspectsLawful → { s.monitor with suspects := l }.suspectsLawful) :
    KeepsMonitor s (s.setSuspects l) := ⟨h, id⟩

theorem keepsMonitor_entryHandled (s : State) : KeepsMonitor s s.entryHandled :=
  (inCourse_entryHandled s).keepsMonitor

theorem keepsMonitor_suspectNamed (s : State) (k : Key) (c : Colour) (kind : FaultKind)
    (f : FrameNo) : KeepsMonitor s (s.suspectNamed k c kind f) := by
  have counted (g : Suspect → Suspect)
      (channel : ∀ e, (g e).key = e.key ∧ (g e).colour = e.colour)
      (count : ∀ e, (g e).count = (e.counted kind f).count) :
      KeepsMonitor s (s.setSuspects (setSuspect k c g s.monitor.suspects)) :=
    keepsMonitor_setSuspects fun h => suspectsLawful_setSuspect h k c channel
      fun e he => count e ▸ e.counted_count kind f he
  unfold State.suspectNamed
  split
  · split
    · exact (counted (fun x => x.counted kind f) (fun _ => ⟨rfl, rfl⟩) fun _ => rfl).trans
        (.of_frame (unchangedBut_askMonitor _ _))
    · exact (counted (fun x => { x.counted kind f with state := .counting })
        (fun _ => ⟨rfl, rfl⟩) fun _ => rfl).trans (keepsMonitor_entryHandled _)
  · rename_i absent
    split
    · exact (KeepsMonitor.of_frame (unchangedBut_raise s _)).trans (keepsMonitor_entryHandled _)
    · rename_i room
      exact (keepsMonitor_setSuspects fun h => suspectsLawful_append h k c kind f absent
        (not_le.mp room)).trans (keepsMonitor_entryHandled _)

theorem keepsMonitor_faultUpdated (s : State) (k : Key) (c : Colour) (kind : FaultKind)
    (f : FrameNo) (o : UpdateOutcome) : KeepsMonitor s (s.faultUpdated k c kind f o) := by
  by_cases loading : o = .loading
  · subst loading
    exact (inCourse_abandonReport s).keepsMonitor
  · by_cases none : o = .none
    · subst none
      exact keepsMonitor_suspectNamed s k c kind f
    · rw [faultUpdated_of_record s k c kind f loading none]
      exact (KeepsMonitor.of_frame (unchangedBut_withEvents s _)).trans
        (keepsMonitor_entryHandled _)

/-- R76: a suspect that is held keeps its count, and one that is filed leaves. -/
theorem suspectsLawful_settles {m : Monitor} (o : PromotionOutcome) (k : Key) (c : Colour)
    (h : m.suspectsLawful) : { m with suspects := o.settles k c m.suspects }.suspectsLawful := by
  unfold PromotionOutcome.settles
  split
  · rw [← setSuspect_eq k c fun x => { x with state := .held }]
    exact suspectsLawful_setSuspect h k c (fun _ => ⟨rfl, rfl⟩) fun _ => id
  · exact Monitor.suspectsLawful_of_sublist h List.filter_sublist

theorem keepsMonitor_promotionAnswered (s : State) (k : Key) (c : Colour) (o : PromotionOutcome) :
    KeepsMonitor s (s.promotionAnswered k c o) := by
  by_cases loading : o = .loading
  · subst loading
    exact (inCourse_abandonReport s).keepsMonitor
  · rw [promotionAnswered_eq s k c loading]
    exact ((keepsMonitor_setSuspects (suspectsLawful_settles o k c)).trans
      (.of_frame (unchangedBut_withEvents _ _))).trans (keepsMonitor_entryHandled _)

theorem keepsMonitor_suspectChecked (s : State) (o : FindOutcome) :
    KeepsMonitor s (s.suspectChecked o) := by
  have checked := fun u => (inCourse_checkSuspects inCourse_endReport u).keepsMonitor
  cases o with
  | loading => exact (inCourse_abandonReport s).keepsMonitor
  | found r =>
    exact (keepsMonitor_setSuspects fun h => Monitor.suspectsLawful_of_sublist h
      (List.eraseIdx_sublist _ _)).trans (checked _)
  | none => exact (inCourse_withMonitor _).keepsMonitor.trans (checked _)

theorem keepsMonitor_healStepped (s : State) (o : HealOutcome) :
    KeepsMonitor s (s.healStepped o) := by
  have next : ∀ (u : State) k, KeepsMonitor u (u.nextHealStep k) := fun u k => by
    unfold State.nextHealStep
    dsimp only
    split
    · exact (inCourse_settled _).keepsMonitor
    · exact (inCourse_settled _).keepsMonitor.trans (.of_frame (unchangedBut_askMonitor _ _))
  cases o with
  | loading => exact (inCourse_abandonReport s).keepsMonitor
  | endOfPass => exact (inCourse_endReport s).keepsMonitor
  | counted k | deferred k => exact next s k
  | healed k => exact (KeepsMonitor.of_frame (unchangedBut_withEvents s _)).trans (next _ k)

theorem keepsMonitor_reportArrives (s : State) (r : Report) :
    KeepsMonitor s (s.reportArrives r) := by
  unfold State.reportArrives
  split
  · exact .refl s
  · split
    · exact .refl s
    · exact (inCourse_takeReport inCourse_endReport _ s).keepsMonitor
  all_goals
    split
    · exact .of_frame (unchangedBut_raise s _)
    · exact (inCourse_withMonitor _).keepsMonitor

/-! ## The raster walker -/

theorem levelArrives_monitor (s : State) (l : Level) : (s.levelArrives l).monitor = s.monitor := by
  unfold State.levelArrives
  repeat' split
  · rfl
  · rfl
  · exact (unchangedBut_driveNext _).1 .monitor (by decide)
  · rfl

/-- R56, R84: video lost asks for an empty suspect list. -/
theorem keepsMonitor_loseVideo (s : State) : KeepsMonitor s s.loseVideo := by
  rw [loseVideo_eq]
  exact (keepsMonitor_askOfMonitor _ _).after

theorem keepsMonitor_emitterDriven (s : State) : KeepsMonitor s s.emitterDriven := by
  unfold State.emitterDriven
  split
  · rw [completeFrame_eq]
    split
    · exact (KeepsMonitor.of_frame (unchangedBut_frameDone s)).trans (keepsMonitor_loseVideo _)
    · exact .of_frame (unchangedBut_frameDone s)
  · exact .of_frame ((unchangedBut_withWalker s _).trans (unchangedBut_driveNext _))

theorem keepsMonitor_endAbandoned (s : State) (e : Ending) : KeepsMonitor s (s.endAbandoned e) := by
  cases e with
  | short => exact .of_frame ((unchangedBut_raise s _).trans (unchangedBut_beginFrame _))
  | lost => exact keepsMonitor_loseVideo s

theorem keepsMonitor_emitterFound (s : State) (found : Option Record) :
    KeepsMonitor s (s.emitterFound found) := by
  have driven := KeepsMonitor.of_frame (unchangedBut_driven s found)
  unfold State.emitterFound
  split
  · exact keepsMonitor_endAbandoned s _
  · dsimp only
    split
    · exact driven.trans (keepsMonitor_emitterDriven _)
    · exact driven.trans (.of_frame (unchangedBut_askWalker _ _))

theorem keepsMonitor_emitterStamped (s : State) : KeepsMonitor s s.emitterStamped := by
  unfold State.emitterStamped
  split
  · exact keepsMonitor_endAbandoned s _
  · exact keepsMonitor_emitterDriven s

theorem keepsMonitor_abandonFrame (s : State) (e : Ending) : KeepsMonitor s (s.abandonFrame e) := by
  unfold State.abandonFrame
  split
  · exact keepsMonitor_endAbandoned s e
  · exact .of_frame (unchangedBut_withWalker s _)

theorem keepsMonitor_frameStartArrives (s : State) : KeepsMonitor s s.frameStartArrives := by
  have held : KeepsMonitor s s.holdFrameStart := .of_frame (unchangedBut_withWalker s _)
  unfold State.frameStartArrives
  split
  iterate 3
    split
    · exact held
    · exact .of_frame (unchangedBut_beginFrame s)
  split
  · exact .of_frame (unchangedBut_withWalker s _)
  · exact held
  · split
    · exact held
    · exact keepsMonitor_abandonFrame s _

theorem keepsMonitor_timerExpires (s : State) : KeepsMonitor s s.timerExpires := by
  unfold State.timerExpires
  repeat' split
  · exact .refl s
  · exact .refl s
  · exact .refl s
  · exact keepsMonitor_loseVideo s
  · exact .refl s
  · exact .of_frame (unchangedBut_withWalker s _)
  · exact keepsMonitor_abandonFrame s _

/-! ## The port and the commands as they are taken -/

theorem unitFirstByte_monitor (s : State) (b : Byte) : (s.unitFirstByte b).monitor = s.monitor := by
  unfold State.unitFirstByte State.acceptRequest
  repeat' split
  all_goals rfl

theorem groupFirstByte_monitor (s : State) : s.groupFirstByte.monitor = s.monitor := by
  unfold State.groupFirstByte
  split <;> rfl

theorem readAnswer_monitor (s : State) (n : Nat) : (s.readAnswer n).monitor = s.monitor := by
  unfold State.readAnswer
  repeat' split
  all_goals rfl

theorem abortEnds_monitor (s : State) : s.abortEnds.monitor = s.monitor := by
  unfold State.abortEnds State.takeAbort
  repeat' split
  all_goals rfl

/-- R87: RESTART empties the suspect list and takes back the waiting requests. -/
theorem keepsMonitor_startRestart (via : Via) (s : State) :
    KeepsMonitor s (s.startRestart via) := by
  unfold State.startRestart
  split
  · exact ⟨fun h => Monitor.suspectsLawful_of_sublist h (List.nil_sublist _), fun _ _ => rfl⟩
  · exact .of_frame (unchangedBut_respond s _ _ _)

/-- The commands that reach the monitor are three requests and RESTART. -/
theorem keepsMonitor_startCommand (via : Via) (i : Instr) (s : State) :
    KeepsMonitor s (s.startCommand via i) := by
  cases i <;> simp only [State.startCommand]
  case restart => exact keepsMonitor_startRestart via s
  case setMonitor d h e =>
    unfold State.startSetMonitor
    split
    · exact (keepsMonitor_askOfMonitor _ _).after
    · exact .of_frame (unchangedBut_respond s _ _ _)
  case suspects => exact (keepsMonitor_askOfMonitor _ _).after
  case clearSuspects => exact (keepsMonitor_askOfMonitor _ _).after
  case setEventMask => refine .of_same ?_; unfold State.startSetEventMask; split <;> rfl
  case setGeometry => refine .of_same ?_; unfold State.startSetGeometry; split <;> rfl
  case save => refine .of_same ?_; unfold State.startSave; split <;> rfl
  case load => refine .of_same ?_; unfold State.startLoad; split <;> rfl
  case setDrive =>
    refine .of_same ?_
    unfold State.startSetDrive
    repeat' split
    all_goals rfl
  case openService =>
    unfold State.startOpenService
    split
    · exact .of_same rfl
    · exact .of_frame ((unchangedBut_reportViolation s _).trans (unchangedBut_respond _ _ _ _))
  all_goals exact .of_same rfl

theorem keepsMonitor_takeCommand (s : State) (via : Via) (code : Byte) {body : State → State}
    (h : ∀ u, KeepsMonitor u (body u)) : KeepsMonitor s (s.quiet.takeCommand via code body) := by
  unfold State.takeCommand
  split
  · exact .of_same rfl
  · exact (h _).after (acceptWrite_monitor s.quiet via)

theorem keepsMonitor_unitRequest (bytes : List Byte) (s : State) :
    KeepsMonitor s (s.unitRequest bytes) := by
  unfold State.unitRequest
  split
  · exact .of_same rfl
  · exact .of_same rfl
  · exact keepsMonitor_startCommand _ _ s

theorem keepsMonitor_groupRequest (bytes : List Byte) (s : State) :
    KeepsMonitor s (s.groupRequest bytes) := by
  unfold State.groupRequest
  split
  · exact .refl s
  · exact .refl s
  · split
    · exact keepsMonitor_startCommand _ _ s
    · exact .refl s

theorem keepsMonitor_writeEnds (s : State) (via : Via) (bytes : List Byte) :
    KeepsMonitor s (s.writeEnds via bytes) := by
  unfold State.writeEnds
  split
  · exact .of_same rfl
  · split
    · exact .of_same (abortEnds_monitor s)
    · split
      · exact .of_same rfl
      · cases via with
        | unit => exact (keepsMonitor_unitRequest _ _).after (acceptWrite_monitor s .unit)
        | group => exact (keepsMonitor_groupRequest _ _).after (acceptWrite_monitor s .group)

/-! ## Outcomes of the engine's operations, and the image store -/

theorem keepsMonitor_geometryAnswered (s : State) (b g : Geometry) (c : Bool) :
    KeepsMonitor s (s.geometryAnswered b g c) := by
  have answered := fun code data => KeepsMonitor.of_frame (unchangedBut_respondHand s code data)
  unfold State.geometryAnswered
  repeat' split
  · exact answered _ _
  · exact (answered _ _).trans (keepsMonitor_askOfMonitor _ _)
  · exact answered _ _

theorem keepsMonitor_protectionAnswered (s : State) (l : AccessLevel) (p : Bool) :
    KeepsMonitor s (s.protectionAnswered l p) := by
  unfold State.protectionAnswered
  split
  · exact (KeepsMonitor.of_frame (unchangedBut_respondHand _ _ _)).after
  · exact .of_frame ((unchangedBut_reportViolation s _).trans (unchangedBut_respondHand _ _ _))

theorem keepsMonitor_sweepStepped (s : State) (c : SweepContext) (m : Bool) (o : SweepOutcome) :
    KeepsMonitor s (s.sweepStepped c m o) := by
  unfold State.sweepStepped
  split
  · exact .of_frame (unchangedBut_respondHand s _ _)
  · exact .of_frame (unchangedBut_askSweepStep s _)

theorem keepsMonitor_statusAnswered (s : State) : KeepsMonitor s s.statusAnswered := by
  unfold State.statusAnswered
  repeat' split
  · exact .refl s
  · exact .of_frame (unchangedBut_sweepStarted s _ _ _)
  · exact .refl s
  · exact .of_frame (unchangedBut_respondHand s _ _)

theorem askBegin_monitor (s : State) (b : BeginReq) : (s.askBegin b).monitor = s.monitor := by
  unfold State.askBegin
  split <;> rfl

theorem headerRead_monitor (s : State) (w : LoadWork) (b : List Byte) :
    (s.headerRead w b).monitor = s.monitor := by
  unfold State.headerRead
  split <;> rfl

theorem slotRead_monitor (s : State) (w : LoadWork) (b : List Byte) :
    (s.slotRead w b).monitor = s.monitor := by
  unfold State.slotRead
  repeat' split
  all_goals rfl

theorem afterEndSave_monitor (s : State) : s.afterEndSave.monitor = s.monitor := by
  unfold State.afterEndSave
  repeat' split
  all_goals rfl

/-! ## Every command -/

theorem keepsMonitor_next {s t : State} (h : KeepsMonitor s t) :
    ∃ u, Host.Outcome.next (φ := Fault) (ρ := Refusal) t = .next u ∧ KeepsMonitor s u := ⟨t, rfl, h⟩

/-- A command of the service port. -/
theorem keepsMonitor_command (s : State) (via : Via) (code : Byte) (i : Instr) :
    ∃ u, Host.Outcome.next (φ := Fault) (ρ := Refusal)
      (s.quiet.takeCommand via code (State.startCommand via i)) = .next u ∧ KeepsMonitor s u :=
  keepsMonitor_next (keepsMonitor_takeCommand s via code (keepsMonitor_startCommand via i))

/-- R68, R69: every command but a hard reset keeps the laws of the monitor. -/
theorem exec_keepsMonitor (c : Instr) (s : State) (hc : ∀ a, c ≠ .hardReset a) :
    ∃ t, exec c s = .next t ∧ KeepsMonitor s t := by
  cases c
  case hardReset a => exact absurd rfl (hc a)
  case svcEnChange a =>
    refine keepsMonitor_next (.of_same ?_)
    unfold State.svcEnChanges
    dsimp only
    split <;> rfl
  case frameStart => exact keepsMonitor_next (keepsMonitor_frameStartArrives _).after
  case heldFrameStart =>
    refine keepsMonitor_next ?_
    unfold State.takeHeldFrameStart
    split
    · exact (KeepsMonitor.of_frame (unchangedBut_beginFrame _)).after
    · exact .of_same rfl
  case pixelLevel l => exact keepsMonitor_next (.of_same (levelArrives_monitor s.quiet l))
  case videoTimerExpiry => exact keepsMonitor_next (keepsMonitor_timerExpires _).after
  case blankSendOver =>
    refine keepsMonitor_next (.of_same ?_)
    unfold State.blankSent
    split <;> rfl
  case faultReport r => exact keepsMonitor_next (keepsMonitor_reportArrives _ r).after
  case requestAccept a b =>
    refine keepsMonitor_next (.of_same ?_)
    split
    · rfl
    · exact unitFirstByte_monitor _ b
    · exact groupFirstByte_monitor _
  case requestWrite a b =>
    refine keepsMonitor_next ?_
    split
    · exact .of_same rfl
    · exact (keepsMonitor_writeEnds _ _ b).after
  case answerRead a n =>
    refine keepsMonitor_next (.of_same ?_)
    split
    · exact readAnswer_monitor _ n
    all_goals rfl
  case abort n => exact keepsMonitor_next (.of_same (abortEnds_monitor s.quiet))
  case describe => exact keepsMonitor_command s .unit 0x01 .describe
  case status => exact keepsMonitor_command s .unit 0x02 .status
  case readEvents => exact keepsMonitor_command s .unit 0x03 .readEvents
  case setEventMask m => exact keepsMonitor_command s .unit 0x04 (.setEventMask m)
  case readViolation => exact keepsMonitor_command s .unit 0x05 .readViolation
  case openService => exact keepsMonitor_command s .unit 0x06 .openService
  case closeService via => exact keepsMonitor_command s via 0x07 (.closeService via)
  case restart via => exact keepsMonitor_command s via 0x08 (.restart via)
  case setGeometry r c => exact keepsMonitor_command s .unit 0x10 (.setGeometry r c)
  case setDrive via d i => exact keepsMonitor_command s via 0x11 (.setDrive via d i)
  case setMonitor via d h e => exact keepsMonitor_command s via 0x12 (.setMonitor via d h e)
  case insert i => exact keepsMonitor_command s .unit 0x20 (.insert i)
  case amend sel i => exact keepsMonitor_command s .unit 0x21 (.amend sel i)
  case retire r c => exact keepsMonitor_command s .unit 0x22 (.retire r c)
  case lookup r c => exact keepsMonitor_command s .unit 0x23 (.lookup r c)
  case next r c => exact keepsMonitor_command s .unit 0x24 (.next r c)
  case sweep p => exact keepsMonitor_command s .unit 0x25 (.sweep p)
  case suspects => exact keepsMonitor_command s .unit 0x28 .suspects
  case clearSuspects => exact keepsMonitor_command s .unit 0x29 .clearSuspects
  case save via => exact keepsMonitor_command s via 0x30 (.save via)
  case load => exact keepsMonitor_command s .unit 0x31 .load
  case findByKey =>
    refine keepsMonitor_next ?_
    split
    · exact (keepsMonitor_emitterFound _ _).after
    · exact (KeepsMonitor.of_frame (unchangedBut_answerEdit _ _ _)).after
    · exact (keepsMonitor_suspectChecked _ _).after
    · exact .of_same rfl
  case findFirstAtOrAfter =>
    refine keepsMonitor_next ?_
    split
    · exact (KeepsMonitor.of_frame (unchangedBut_answerEdit _ _ _)).after
    · exact .of_same rfl
  case tableInsert | tableAmend | remove =>
    refine keepsMonitor_next ?_
    split
    · exact (KeepsMonitor.of_frame (unchangedBut_answerGuarded _ _ _ _ _)).after
    · exact .of_same rfl
  case promotionInsert =>
    refine keepsMonitor_next ?_
    split
    · exact (keepsMonitor_promotionAnswered _ _ _ _).after
    · exact .of_same rfl
  case faultUpdate =>
    refine keepsMonitor_next ?_
    split
    · exact (keepsMonitor_faultUpdated _ _ _ _ _ _).after
    · exact .of_same rfl
  case stampProbeFrame =>
    refine keepsMonitor_next ?_
    split
    · exact (keepsMonitor_emitterStamped _).after
    · exact .of_same rfl
  case sweepStep =>
    refine keepsMonitor_next ?_
    split
    · exact (keepsMonitor_sweepStepped _ _ _ _).after
    · exact .of_same rfl
  case healStep =>
    refine keepsMonitor_next ?_
    split
    · exact (keepsMonitor_healStepped _ _).after
    · exact .of_same rfl
  case statusRead =>
    refine keepsMonitor_next ?_
    split
    · exact (keepsMonitor_statusAnswered _).after
    · exact .of_same rfl
  case geometryChange =>
    refine keepsMonitor_next ?_
    split
    · exact (keepsMonitor_geometryAnswered _ _ _ _).after
    · exact .of_same rfl
  case protectionTest =>
    refine keepsMonitor_next ?_
    split
    · exact (keepsMonitor_protectionAnswered _ _ _).after
    · exact .of_same rfl
  case beginSave =>
    have asked := askBegin_monitor s.quiet .save
    refine keepsMonitor_next (.of_same ?_)
    split
    · exact asked
    · exact asked
  case saveRead =>
    refine keepsMonitor_next ?_
    split
    · exact (KeepsMonitor.of_frame (unchangedBut_saveNext _ _)).after
    · exact .of_same rfl
  case endSave =>
    refine keepsMonitor_next (.of_same ?_)
    split
    · exact afterEndSave_monitor _
    · rfl
  case beginLoad =>
    have asked := askBegin_monitor s.quiet .load
    refine keepsMonitor_next ?_
    split
    · exact (keepsMonitor_askOfMonitor _ _).after asked
    · exact .of_same asked
  case loadGeometry =>
    refine keepsMonitor_next ?_
    split
    · exact (KeepsMonitor.of_frame (unchangedBut_loadNext _ _ _)).after
    · exact .of_same rfl
  case loadInsert =>
    refine keepsMonitor_next ?_
    split
    · dsimp only
      split
      · exact (KeepsMonitor.of_frame (unchangedBut_loadNext _ _ _)).after
      · exact .of_same rfl
    · exact .of_same rfl
  case endLoad =>
    refine keepsMonitor_next ?_
    split
    · exact (keepsMonitor_askOfMonitor _ _).after
    · exact (keepsMonitor_askOfMonitor _ _).after
    · exact .of_same rfl
  case readStatus b =>
    refine keepsMonitor_next ?_
    repeat' split
    · exact .of_same rfl
    · exact (KeepsMonitor.of_frame (unchangedBut_saveNext _ _)).after
    all_goals exact .of_same rfl
  case writeEnable | sectorErase | pageProgram | flashTimeout =>
    refine keepsMonitor_next (.of_same ?_)
    split <;> rfl
  case readData b =>
    refine keepsMonitor_next (.of_same ?_)
    repeat' split
    · exact headerRead_monitor _ _ b
    · exact slotRead_monitor _ _ b
    all_goals rfl

/-- R68, R69: every command keeps the laws of the monitor; a hard reset leaves no suspect and no request. -/
theorem monitorLaws_of_exec (c : Instr) (s t : State)
    (hs : s.monitor.suspectsLawful ∧ s.monitor.nothingOverdue) (h : exec c s = .next t) :
    t.monitor.suspectsLawful ∧ t.monitor.nothingOverdue := by
  obtain ⟨suspects, overdue⟩ := hs
  by_cases hc : ∃ a, c = .hardReset a
  · obtain ⟨a, rfl⟩ := hc
    obtain rfl := Host.Outcome.next.inj h
    exact ⟨Monitor.suspectsLawful_of_sublist suspects (List.nil_sublist _), fun _ => rfl⟩
  · obtain ⟨u, hu, kept⟩ := exec_keepsMonitor c s fun a ha => hc ⟨a, ha⟩
    obtain rfl := Host.Outcome.next.inj (hu.symm.trans h)
    exact ⟨kept.suspects suspects, kept.overdue overdue⟩

/-- Settles O56: what every command keeps, every step keeps. -/
theorem monitorStaysLawful : Obligations.MonitorStaysLawful := fun _ _ suspects overdue h =>
  step_keeps_of_exec (P := fun s => s.monitor.suspectsLawful ∧ s.monitor.nothingOverdue)
    (fun _ _ => id) monitorLaws_of_exec ⟨suspects, overdue⟩ h

end Sys2Proof.Machine
end

section
/-! PROOFS. The heal pass (R92): what the monitor does on each outcome of a heal step, and how the pass ends (R79). -/
namespace Sys2Proof.Machine

/-- R29: a heal step that examines no record leaves the table. -/
theorem Table.healStep_table_of_unexamined {t : Table} {position : Option Key} {f : FrameNo}
    {n : Nat} (unexamined : (t.healStep position f n).2 = .loading ∨
      (t.healStep position f n).2 = .endOfPass) : (t.healStep position f n).1 = t := by
  cases state : t.state with
  | loading => rw [Table.healStep_of_loading n state]
  | ready =>
    cases candidate : t.healCandidate position f with
    | none => rw [Table.healStep_of_none n state candidate]
    | some r =>
      exfalso
      by_cases healed : n ≤ r.healCountAfter f ∧ t.saveHold = false
      · obtain ⟨reached, unheld⟩ := healed
        rw [Table.healStep_of_healed n state candidate reached unheld] at unexamined
        simp at unexamined
      · rw [Table.healStep_of_stays n state candidate healed] at unexamined
        dsimp only at unexamined
        split_ifs at unexamined <;> simp at unexamined

section
variable {s u : State} {k : Key}
  (hu : u = (s.withMonitor { s.monitor with healPosition := some k }).stepPoint)
include hu

/-- R92: a report that the step point between two heal steps discards has no next step. -/
theorem nextHealStep_of_dropped (dropped : u.monitor.inHand = none) : s.nextHealStep k = u := by
  subst hu
  unfold State.nextHealStep
  dsimp only
  rw [dropped]

/-- R92: a report still in hand after it asks for its next step. -/
theorem nextHealStep_of_kept {r : Report} (kept : u.monitor.inHand = some r) :
    s.nextHealStep k =
      u.askMonitor (.heal (some k) r.frame u.monitor.latchedHealProbes) := by
  subst hu
  unfold State.nextHealStep
  dsimp only
  rw [kept]

end

/-- R92: a record examined leads on from its key, and raises HEALED if it has left. -/
theorem healStepped_of_examined (s : State) {o : HealOutcome} {k : Key}
    (examined : o = .counted k ∨ o = .deferred k ∨ o = .healed k) :
    s.healStepped o = (s.withEvents (if o = .healed k
      then { s.events.raise .healed with healedKey := some k } else s.events)).nextHealStep k := by
  obtain rfl | rfl | rfl := examined
  · rw [if_neg nofun]; rfl
  · rw [if_neg nofun]; rfl
  · rw [if_pos rfl]; rfl

/-- Settles O23: a record examined, the end of the pass, and a table that is LOADING. -/
theorem healPassGoesOnOrEnds : Obligations.HealPassGoesOnOrEnds := by
  refine fun s position f n hop => ⟨fun k examined => ?_, fun ended => ?_, fun loading => ?_⟩
  · rw [exec_healStep hop, healStepped_of_examined _ examined]
    generalize hw : (s.quiet.complete .monitor (s.table.healStep position f n).1).withEvents _ = w
    have frame : UnchangedBut [.table, .arbiter, .events] s w :=
      hw ▸ ((unchangedBut_complete s .monitor _).trans (unchangedBut_withEvents _ _)).mono
        (by decide)
    refine ⟨w.withMonitor { w.monitor with healPosition := some k }, _, ?_, ?_,
      (frame.trans (unchangedBut_withMonitor w _)).mono (by decide), ?_, rfl,
      fun dropped => congrArg _ (nextHealStep_of_dropped rfl dropped),
      fun r kept => congrArg _ (nextHealStep_of_kept rfl kept)⟩
    all_goals rw [← hw]; rfl
  · rw [exec_healStep hop, ended, Table.healStep_table_of_unexamined (.inr ended)]
    exact ⟨s.quiet.complete .monitor s.table, rfl, rfl,
      unchangedBut_complete_same s .monitor, rfl⟩
  · rw [exec_healStep hop, loading, Table.healStep_table_of_unexamined (.inl loading)]
    exact ⟨_, reportDropped_completed s, rfl⟩

end Sys2Proof.Machine
end

section
/-! PROOFS. The edits of the command engine that write records: the insert of INSERT (R110, R111) and the amend of AMEND (R113 to R117), with the answer and the violation that each leaves (R106, R109). -/
namespace Sys2Proof.Machine

/-! ## The answer to an edit (R106, R109) -/

/-- R108: the first check of every edit. -/
theorem Table.busy_iff (t : Table) : t.busy = true ↔ t.state = .loading ∨ t.saveHold = true := by
  simp [Table.busy]

theorem answerGuarded_of_done (s : State) (code : Byte) (key : Key) (level : AccessLevel) :
    s.answerGuarded code key level .done = s.respondHand .ok (be32 s.table.generation) :=
  if_neg nofun

/-- R20, R106: an edit, complete and answered, touches the engine's blocks and the violation's. -/
theorem unchangedBut_edit (s : State) (t : Table) (code : Byte) (key : Key) (level : AccessLevel)
    (o : EditOutcome) : UnchangedBut [.table, .arbiter, .engine, .access, .events] s
      ((s.quiet.complete .engine t).answerGuarded code key level o) :=
  ((unchangedBut_complete s .engine t).trans (unchangedBut_answerGuarded ..)).mono (by decide)

theorem completed_edit (s : State) (t : Table) (code : Byte) (key : Key) (level : AccessLevel)
    (o : EditOutcome) :
    Completed s .engine ((s.quiet.complete .engine t).answerGuarded code key level o) :=
  answerGuarded_arbiter ..

section
variable {s : State} {job : Job} (hand : s.engine.hand = some job) (unit : job.via = .unit)
include hand unit

/-- R106: an edit that is only answered records no violation. -/
theorem edit_answered {t : Table} {u : State} {code : ResultCode} {data : List Byte}
    (hu : u = (s.quiet.complete .engine t).respondHand code data) :
    HandAnswered s code data u ∧ u.table = t ∧ u.access = s.access ∧ u.events = s.events := by
  subst hu
  exact ⟨handAnswered_respondHand (u := s.quiet.complete .engine t) rfl hand unit _ _,
    (State.respondHand_keeps _ _ _).table, respondHand_access .., respondHand_events ..⟩

/-- R109: an edit refused with PROTECTED leaves the table and records its violation. -/
theorem edit_protected (code : Byte) (key : Key) (level : AccessLevel) {u : State}
    (hu : u = (s.quiet.complete .engine s.table).answerGuarded code key level
      (.refused .protected_)) :
    HandAnswered s .protected_ (be32 s.table.generation) u ∧ u.table = s.table ∧
      ViolationRecorded s.access s.events ⟨code, some key, level, .protected_⟩ u := by
  rw [answerGuarded_of_protected] at hu
  subst hu
  exact ⟨handAnswered_respondHand ((s.quiet.complete .engine s.table).reportViolation_engine _)
      hand unit _ _,
    (State.respondHand_keeps _ _ _).table.trans (State.reportViolation_table _ _),
    (violationRecorded_reportViolation (s.quiet.complete .engine s.table) _).congr
      (respondHand_access ..) (respondHand_events ..)⟩

end

/-! ## The insert (R110, R111) -/

/-- R110: the refusals of INSERT in their order, or OK. -/
def Table.insertCode (t : Table) (level : AccessLevel) (i : RecordImage) : ResultCode :=
  if t.state = .loading ∨ t.saveHold = true then .storeBusy
  else if suppliedRecord i = none then .badField
  else if ¬ t.geometry.contains (keyOf i.row i.col) then .outOfRange
  else if i.origin = 1 ∧ level = .operator then .protected_
  else if t.find (keyOf i.row i.col) ≠ none then .exists_
  else if 512 ≤ t.records.length then .tableFull else .ok

/-- R12: the origin byte of a FACTORY record. -/
theorem suppliedOrigin_factory_iff {b : Byte} {o : Origin} (h : suppliedOrigin b = some o) :
    o = .factory ↔ b = 1 := by
  rw [suppliedOrigin_eq] at h
  split at h
  · rename_i one
    exact iff_of_true (Option.some.inj h).symm one
  · rename_i other
    split at h
    · exact iff_of_false (by simp [← Option.some.inj h]) other
    · cases h

/-- R110: with a record supplied, the checks of its fields are those of the request's bytes. -/
theorem Table.insert_of_supplied {i : RecordImage} {p : Persistent}
    (supplied : suppliedRecord i = some p) (t : Table) (level : AccessLevel) :
    t.insert level i =
      if t.insertCode level i = .ok then ((t.join p).advance, .done)
      else (t, .refused (t.insertCode level i)) := by
  obtain ⟨key, origin, -⟩ := persistentOf_eq_some_iff.mp supplied
  unfold Table.insert Table.insertCode
  simp only [supplied, t.busy_iff, t.full_iff, key, suppliedOrigin_factory_iff origin,
    Option.isSome_iff_ne_none, reduceCtorEq, if_false]
  split_ifs <;> trivial

/-- R110: a check that fails refuses with its code. -/
theorem Table.insert_of_refused {t : Table} {level : AccessLevel} {i : RecordImage}
    (refused : t.insertCode level i ≠ .ok) :
    t.insert level i = (t, .refused (t.insertCode level i)) := by
  cases supplied : suppliedRecord i with
  | some p => rw [t.insert_of_supplied supplied, if_neg refused]
  | none =>
    unfold Table.insert Table.insertCode
    simp only [supplied, t.busy_iff, if_true]
    split_ifs <;> rfl

/-- R110: OK means that no record is held under the key. -/
theorem Table.absent_of_insertCode {t : Table} {level : AccessLevel} {i : RecordImage}
    (passed : t.insertCode level i = .ok) : t.find (keyOf i.row i.col) = none := by
  unfold Table.insertCode at passed
  split_ifs at passed with _ _ _ _ present
  exact not_not.mp present

/-- R110: OK means that a record is supplied. -/
theorem Table.supplied_of_insertCode {t : Table} {level : AccessLevel} {i : RecordImage}
    (passed : t.insertCode level i = .ok) : ∃ p, suppliedRecord i = some p := by
  unfold Table.insertCode at passed
  split_ifs at passed with _ missing
  exact Option.ne_none_iff_exists'.mp missing

/-- The completion of an insert, with its outcome still to be answered. -/
theorem exec_tableInsert {s : State} {i : RecordImage}
    (hop : s.arbiter.engineOp = some (.insert i)) :
    exec .tableInsert s =
      .next ((s.quiet.complete .engine
        (s.table.insert s.arbiter.levelAtGrant i).1).answerGuarded 0x20 (keyOf i.row i.col)
          s.arbiter.levelAtGrant (s.table.insert s.arbiter.levelAtGrant i).2) := by
  show execTableInsert s = _
  unfold execTableInsert
  rw [hop]

/-- Settles O37: the insert that passes its checks, the refusal with PROTECTED, and the others. -/
theorem tableInsertChecksAndJoins : Obligations.TableInsertChecksAndJoins := by
  intro s i job hop hand unit
  have completed := completed_edit s
  have frame := unchangedBut_edit s
  refine ⟨_, s.table.insertCode s.arbiter.levelAtGrant i, exec_tableInsert hop, rfl, ?_⟩
  by_cases passed : s.table.insertCode s.arbiter.levelAtGrant i = .ok
  · obtain ⟨p, supplied⟩ := Table.supplied_of_insertCode passed
    obtain ⟨key, -⟩ := persistentOf_eq_some_iff.mp supplied
    rw [s.table.insert_of_supplied supplied, if_pos passed, passed]
    obtain ⟨answered, table, access, events⟩ :=
      edit_answered hand unit (answerGuarded_of_done ..)
    rw [table]
    refine ⟨answered, completed .., frame .., nofun, fun q _ hq => ?_, nofun,
      fun _ => ⟨access, events⟩⟩
    obtain rfl := Option.some.inj (supplied.symm.trans hq)
    exact ⟨key, Table.find_join rfl (key ▸ Table.absent_of_insertCode passed),
      s.table.othersKept_join rfl, s.table.join_length p, ⟨rfl, rfl, rfl, rfl⟩⟩
  · rw [Table.insert_of_refused passed]
    by_cases guarded : s.table.insertCode s.arbiter.levelAtGrant i = .protected_
    · rw [guarded] at passed ⊢
      obtain ⟨answered, table, recorded⟩ := edit_protected hand unit 0x20 (keyOf i.row i.col)
        s.arbiter.levelAtGrant rfl
      rw [table]
      exact ⟨answered, completed .., frame .., fun _ => rfl, fun _ h => absurd h passed,
        fun _ => recorded, fun h => absurd rfl h⟩
    · obtain ⟨answered, table, access, events⟩ :=
        edit_answered hand unit (answerGuarded_of_refused _ _ _ _ guarded)
      rw [table]
      exact ⟨answered, completed .., frame .., fun _ => rfl,
        fun _ h => absurd h passed, fun h => absurd h guarded, fun _ => ⟨access, events⟩⟩

/-! ## The amend (R113 to R117) -/

/-- R116, R117: what makes an AMEND of a DETECTED record adopt it. -/
theorem AmendFields.adopts_iff (a : AmendFields) :
    (a.namesColour = true ∨ a.origin.isSome = true) ↔
      a.red ≠ none ∨ a.green ≠ none ∨ a.blue ≠ none ∨ a.origin ≠ none := by
  simp only [AmendFields.namesColour, Bool.or_eq_true, Option.isSome_iff_ne_none, or_assoc]

/-- R115 to R117: the fields of an amended record. -/
theorem AmendFields.apply_fields (a : AmendFields) (p : Persistent) :
    (a.apply p).key = p.key ∧ (a.apply p).status = a.status.getD p.status ∧
      (a.apply p).tag = a.tag.getD p.tag ∧
      (if p.origin = .detected ∧
          (a.red ≠ none ∨ a.green ≠ none ∨ a.blue ≠ none ∨ a.origin ≠ none) then
        (a.apply p).origin = a.origin.getD .service ∧
        (a.apply p).red = { a.red.getD p.red with auto := false } ∧
        (a.apply p).green = { a.green.getD p.green with auto := false } ∧
        (a.apply p).blue = { a.blue.getD p.blue with auto := false }
      else
        (a.apply p).origin = a.origin.getD p.origin ∧ (a.apply p).red = a.red.getD p.red ∧
        (a.apply p).green = a.green.getD p.green ∧ (a.apply p).blue = a.blue.getD p.blue) := by
  unfold AmendFields.apply
  simp only [a.adopts_iff]
  split <;> exact ⟨rfl, rfl, rfl, rfl, rfl, rfl, rfl⟩

/-- R115: the table after an amend of the record r. -/
def Table.amended (t : Table) (a : AmendFields) (r : Record) : Table :=
  if a.apply r.pers = r.pers then t else (t.put ⟨a.apply r.pers, r.vol⟩).advance

section
variable {t : Table} {a : AmendFields} {r : Record} {k : Key}

/-- R115: the amended record keeps its volatile values. -/
theorem Table.find_amended (found : t.find k = some r) :
    (t.amended a r).find k = some ⟨a.apply r.pers, r.vol⟩ := by
  unfold Table.amended
  split
  · rename_i same
    rw [same, found]
  · exact Table.find_put found ((a.apply_key _).trans (key_of_findKey found))

theorem Table.othersKept_amended (found : t.find k = some r) :
    OthersKept k t (t.amended a r) := by
  unfold Table.amended
  split
  · exact fun _ _ => rfl
  · exact t.othersKept_put ((a.apply_key _).trans (key_of_findKey found))

theorem Table.amended_length (t : Table) (a : AmendFields) (r : Record) :
    (t.amended a r).records.length = t.records.length := by
  unfold Table.amended
  split
  · rfl
  · exact putRecord_length _ _

/-- R115: an AMEND that changes nothing leaves the generation number. -/
theorem Table.settingsKept_amended (same : a.apply r.pers = r.pers) :
    SettingsKept t (t.amended a r) := by
  unfold Table.amended
  rw [if_pos same]
  exact ⟨rfl, rfl, rfl, rfl⟩

/-- R115: an AMEND that changes a persistent field advances the generation number. -/
theorem Table.generationAdvanced_amended (differ : a.apply r.pers ≠ r.pers) :
    GenerationAdvanced t (t.amended a r) := by
  unfold Table.amended
  rw [if_neg differ]
  exact ⟨rfl, rfl, rfl, rfl⟩

end

section
variable {t : Table} {sel : Byte} {i : RecordImage} (level : AccessLevel)

/-- R114: the first four checks in their order. -/
theorem Table.amend_of_refused {code : ResultCode}
    (h : code = if t.state = .loading ∨ t.saveHold = true then .storeBusy
      else if amendFields sel i = none then .badField
      else if ¬ t.geometry.contains (keyOf i.row i.col) then .outOfRange
      else if t.find (keyOf i.row i.col) = none then .noRecord else .ok) (refused : code ≠ .ok) :
    t.amend level sel i = (t, .refused code) := by
  unfold Table.amend
  simp only [t.busy_iff]
  split
  · rename_i busy
    rw [h, if_pos busy]
  · rename_i idle
    rw [if_neg idle] at h
    split
    · rename_i invalid
      rw [h, if_pos invalid]
    · rename_i fields
      rw [if_neg (by simp [fields])] at h
      split
      · rename_i outside
        rw [h, if_pos outside]
      · rename_i inside
        rw [if_neg inside] at h
        split
        · rename_i absent
          rw [h, if_pos absent]
        · rename_i found
          exact absurd (h.trans (if_neg (by simp [found]))) refused

/-- R114, R115: with the first four checks passed the protection decides. -/
theorem Table.amend_of_found {a : AmendFields} {r : Record} (ready : t.state = .ready)
    (unheld : t.saveHold = false) (fields : amendFields sel i = some a)
    (inside : t.geometry.contains (keyOf i.row i.col))
    (found : t.find (keyOf i.row i.col) = some r) :
    t.amend level sel i =
      if level = .operator ∧ (r.pers.origin = .factory ∨ a.origin = some .factory) then
        (t, .refused .protected_)
      else (t.amended a r, .doneWith ⟨a.apply r.pers, r.vol⟩) := by
  unfold Table.amend Table.amended
  rw [if_neg (by simp [Table.busy, ready, unheld]), fields]
  dsimp only
  rw [if_neg (not_not.mpr inside), found]
  dsimp only
  split
  · rfl
  · split
    · rename_i same
      rw [same]
    · rfl

end

/-- The completion of an amend, with its outcome still to be answered. -/
theorem exec_tableAmend {s : State} {sel : Byte} {i : RecordImage}
    (hop : s.arbiter.engineOp = some (.amend sel i)) :
    exec .tableAmend s =
      .next ((s.quiet.complete .engine
        (s.table.amend s.arbiter.levelAtGrant sel i).1).answerGuarded 0x21 (keyOf i.row i.col)
          s.arbiter.levelAtGrant (s.table.amend s.arbiter.levelAtGrant sel i).2) := by
  show execTableAmend s = _
  unfold execTableAmend
  rw [hop]

/-- Settles O38: the first four checks, the protection, then the amended record. -/
theorem tableAmendWritesAndAdopts : Obligations.TableAmendWritesAndAdopts := by
  intro s sel i job hop hand unit
  refine ⟨_, exec_tableAmend hop, completed_edit .., unchangedBut_edit ..,
    fun code hcode refused => ?_,
    fun a r ready unheld fields inside found => ⟨fun guarded => ?_, fun allowed => ?_⟩⟩
  · have unguarded : code ≠ .protected_ := by
      rw [hcode]
      split_ifs <;> decide
    rw [Table.amend_of_refused _ hcode refused]
    exact edit_answered hand unit (answerGuarded_of_refused _ _ _ _ unguarded)
  · rw [Table.amend_of_found _ ready unheld fields inside found, if_pos guarded]
    exact edit_protected hand unit 0x21 _ _ rfl
  · rw [Table.amend_of_found _ ready unheld fields inside found, if_neg allowed]
    obtain ⟨answered, table, access, events⟩ :=
      edit_answered hand unit (answerGuarded_of_doneWith ..)
    rw [table]
    exact ⟨access, events, Table.othersKept_amended found, s.table.amended_length a r,
      a.apply r.pers, Table.find_amended found, answered, Table.settingsKept_amended,
      Table.generationAdvanced_amended, a.apply_fields r.pers⟩

end Sys2Proof.Machine
end

section
/-! PROOFS. The reads of the command engine: LOOKUP (R121) and NEXT (R123, R124), each answered from one find, and the bytes in which a record is answered (R106, R185). -/
namespace Sys2Proof.Machine

/-- R185: an absent field of the volatile block is as many zero bytes as a present one has. -/
theorem volatileBytes_eq (v : Volatile) : volatileBytes v = [byte v.faultCount] ++
    (match v.lastFault with
      | none => [0, 0, 0, 0, 0, 0]
      | some f => [1, byte (16 * colourCode f.colour + kindCode f.kind)] ++ be32 f.frame) ++
    (match v.probeFrame with
      | none => [0, 0, 0, 0, 0]
      | some f => [1] ++ be32 f) ++ [byte v.healCount] := by
  obtain ⟨_, fault, probe, _⟩ := v
  cases fault <;> cases probe <;> rfl

/-- R20, R106: a read, complete and answered, touches the arbiter and the engine. -/
theorem read_frame (s : State) (doneCode : ResultCode) (o : EditOutcome) :
    Completed s .engine ((s.quiet.complete .engine s.table).answerEdit doneCode o) ∧
      UnchangedBut [.arbiter, .engine] s
        ((s.quiet.complete .engine s.table).answerEdit doneCode o) :=
  ⟨answerEdit_arbiter .., (unchangedBut_complete_same s .engine).trans (unchangedBut_answerEdit ..)⟩

/-- The completion of LOOKUP's find, with its outcome still to be answered. -/
theorem exec_engineFind {s : State} {row col : Byte}
    (hop : s.arbiter.engineOp = some (.find row col))
    (inProgress : s.arbiter.inProgress = some .engine) :
    exec .findByKey s =
      .next ((s.quiet.complete .engine s.table).answerEdit .ok (s.table.lookup row col)) := by
  have walker : s.arbiter.walkerOp = none := if_neg (by simp [inProgress])
  show execFindByKey s = _
  unfold execFindByKey
  rw [walker, hop]

/-- The completion of NEXT's find, with its outcome still to be answered. -/
theorem exec_findFirstAtOrAfter {s : State} {row col : Byte}
    (hop : s.arbiter.engineOp = some (.findFirst row col)) :
    exec .findFirstAtOrAfter s =
      .next ((s.quiet.complete .engine s.table).answerEdit .endOfTable
        (s.table.next row col)) := by
  show execFindFirstAtOrAfter s = _
  unfold execFindFirstAtOrAfter
  rw [hop]

/-- Settles O40: the bytes of a record, then the checks of LOOKUP and of NEXT in their order. -/
theorem lookupAndNextRead : Obligations.LookupAndNextRead := by
  refine ⟨fun _ => rfl, volatileBytes_eq, fun s row col job hand unit => ?_⟩
  have answered := fun code data => handAnswered_respondHand
    (u := s.quiet.complete .engine s.table) (s := s) rfl hand unit code data
  refine ⟨fun hop inProgress => ?_, fun hop => ?_⟩
  · obtain ⟨completed, frame⟩ := read_frame s .ok (s.table.lookup row col)
    refine ⟨_, exec_engineFind hop inProgress, completed, frame, ?_⟩
    unfold Table.lookup keyOf
    split_ifs with loading inside
    · exact answered _ _
    · cases s.table.find ⟨row.toNat, col.toNat⟩ with
      | none => exact answered _ _
      | some r => exact answered _ _
    · exact answered _ _
  · obtain ⟨completed, frame⟩ := read_frame s .endOfTable (s.table.next row col)
    refine ⟨_, exec_findFirstAtOrAfter hop, completed, frame, ?_⟩
    unfold Table.next firstFrom keyOf
    split_ifs with loading outside
    · exact answered _ _
    · exact answered _ _
    · cases s.table.records.find? (fun r => ¬ r.pers.key.before ⟨row.toNat, col.toNat⟩) with
      | none => exact answered _ _
      | some r => exact answered _ _

end Sys2Proof.Machine
end

section
/-! PROOFS. The frame of a save: SAVE as it is accepted (R159), the rows that ask for begin save and begin load (log entry 29), begin save (R160) and end save (R161, R162). -/
namespace Sys2Proof.Machine

/-! ## SAVE (R159) -/

theorem unchangedBut_startStore (s : State) (w : StoreWork) (b : BeginReq) :
    UnchangedBut [.store] s (s.startStore w b) := by
  rw [unchangedBut_iff]
  simp [State.startStore]

/-- R159: SAVE with the store IDLE and the table READY, its begin save yet to be asked for. -/
theorem save_accepted {s : State} {via : Via} (taken : s.refusesWrite via = false)
    (store : s.store.state = .idle) (table : s.table.state = .ready) :
    ∃ t, exec (.save via) s = .next t ∧ t.events = (s.acceptWrite via).events ∧
      Answered s via .started [] t ∧
      t.store = ⟨.saving .begun, s.store.lastResult, .none, some .save⟩ ∧
      UnchangedBut [.engine, .store, .events] s t := by
  have started : State.startSave via (s.taken via 0x30) =
      ((s.taken via 0x30).startStore (.saving .begun) .save).respond via .started [] :=
    if_pos ⟨(taken_storeState s via 0x30).trans store,
      by rwa [(unchangedBut_taken s via 0x30).1 .table (by decide)]⟩
  refine ⟨_, congrArg Host.Outcome.next ((takeCommand_of_taken s via 0x30 _ taken).trans started),
    rfl, ?_, ?_, (((unchangedBut_taken s via 0x30).trans (unchangedBut_startStore _ _ _)).trans
      (unchangedBut_respond _ via .started [])).mono (by decide)⟩
  · unfold Answered State.startStore
    rw [State.respond_engine, State.withStore_engine, taken_engine]
    cases via <;> rfl
  · simp [State.startStore, State.taken]

/-- R159: SAVE with the store or the table busy is answered, and nothing else. -/
theorem save_refused {s : State} {via : Via} (taken : s.refusesWrite via = false)
    (busy : ¬ (s.store.state = .idle ∧ s.table.state = .ready)) :
    ∃ t, exec (.save via) s = .next t ∧ Answered s via .storeBusy [] t ∧
      t.events = (s.acceptWrite via).events ∧ UnchangedBut [.engine, .events] s t := by
  refine exec_answers taken rfl (if_neg ?_)
  rwa [taken_storeState, (unchangedBut_taken s via 0x30).1 .table (by decide)]

/-! ## The rows of begin save and begin load (log entry 29) -/

/-- Log entry 29: the operation that was due is asked for, and due no more. -/
theorem askBegin_of_due {s : State} {b : BeginReq} (due : s.store.due = some b) :
    s.askBegin b = (s.withStore { s.store with due := none }).withArbiter
      ({ s.arbiter with store := some b.request }.granted s.access.level) := if_pos due

theorem exec_beginSave_askBegin {s : State} (due : s.store.due = some .save) :
    exec .beginSave s = exec .beginSave (s.askBegin .save) := by
  show execBeginSave s = execBeginSave _
  unfold execBeginSave
  rw [quiet_askBegin, quiet_askBegin, askBegin_askBegin, askBegin_of_due due]
  rfl

theorem exec_beginLoad_askBegin {s : State} (due : s.store.due = some .load) :
    exec .beginLoad s = exec .beginLoad (s.askBegin .load) := by
  show execBeginLoad s = execBeginLoad _
  unfold execBeginLoad
  rw [quiet_askBegin, quiet_askBegin, askBegin_askBegin, askBegin_of_due due]
  rfl

section
variable {s : State} (due : s.store.due = none) (waits : s.arbiter.inProgress ≠ some .store)
include due waits

/-- R20: a begin save that has been asked for and is not granted waits. -/
theorem exec_beginSave_waits : exec .beginSave s = .next s.quiet := by
  show execBeginSave s = _
  unfold execBeginSave
  rw [askBegin_of_due_none (s := s.quiet) due]
  dsimp only
  rw [show s.quiet.arbiter.storeOp = none from if_neg waits]

/-- R20: a begin load that has been asked for and is not granted waits. -/
theorem exec_beginLoad_waits : exec .beginLoad s = .next s.quiet := by
  show execBeginLoad s = _
  unfold execBeginLoad
  rw [askBegin_of_due_none (s := s.quiet) due]
  dsimp only
  rw [show s.quiet.arbiter.storeOp = none from if_neg waits]

end

theorem unchangedBut_askBegin (s : State) (b : BeginReq) :
    UnchangedBut [.store, .arbiter] s (s.askBegin b) := by
  rw [unchangedBut_iff]
  unfold State.askBegin
  split <;> simp [State.askStore_eq]

/-- R20, log entry 29: the row of a begin operation that is due asks for it, and it waits while another is in progress. -/
theorem begin_asks {s : State} {b : BeginReq} {c : Instr} (due : s.store.due = some b)
    (hcase : b = .save ∧ c = .beginSave ∨ b = .load ∧ c = .beginLoad) :
    exec c s = exec c (s.askBegin b) ∧
      ((s.askBegin b).arbiter.inProgress ≠ some .store →
        exec c s = .next (s.askBegin b).quiet) := by
  have asked : (s.askBegin b).store.due = none := by rw [askBegin_of_due due]; rfl
  obtain ⟨rfl, rfl⟩ | ⟨rfl, rfl⟩ := hcase
  · have same := exec_beginSave_askBegin due
    exact ⟨same, fun waits => same.trans (exec_beginSave_waits asked waits)⟩
  · have same := exec_beginLoad_askBegin due
    exact ⟨same, fun waits => same.trans (exec_beginLoad_waits asked waits)⟩

/-! ## Begin save and end save (R160 to R162) -/

/-- The completion of a begin save that was asked for before. -/
theorem exec_beginSave {s : State} {w : SaveWork} (hop : s.arbiter.storeOp = some .beginSave)
    (work : s.store.work = .saving w) (due : s.store.due = none) :
    exec .beginSave s =
      .next (((s.quiet.complete .store (s.table.hold true)).setWork (.saving { w with
        header := some s.saveHeader
        crc := crcOver crcStart (headerFields s.saveHeader) })).poll 400) := by
  show execBeginSave s = _
  unfold execBeginSave
  rw [askBegin_of_due_none (s := s.quiet) due]
  dsimp only
  rw [show s.quiet.arbiter.storeOp = _ from hop, show s.quiet.store.work = _ from work]
  rfl

/-- The completion of an end save, with the store still to become IDLE. -/
theorem exec_endSave {s : State} (hop : s.arbiter.storeOp = some .endSave) :
    exec .endSave s = .next (s.quiet.complete .store (s.table.hold false)).afterEndSave := by
  show execEndSave s = _
  unfold execEndSave
  rw [hop]

/-- R161 step 5, R162 step 3: how the store ends a save. -/
theorem afterEndSave_of_saving {s : State} {w : SaveWork} (work : s.store.work = .saving w) :
    s.afterEndSave =
      (s.withStore ⟨.idle, if w.faulted then .saveFault else .saved, .none, none⟩).raise
        (if w.faulted then .storeFault else .storeDone) := by
  unfold State.afterEndSave
  rw [work]
  dsimp only
  split <;> rfl

theorem unchangedBut_withStore (s : State) (x : Store) :
    UnchangedBut [.store] s (s.withStore x) := by
  rw [unchangedBut_iff]
  simp

/-- Settles O47: SAVE accepted and refused, the begin operations as they are asked for, begin save, and end save. -/
theorem saveIsAcceptedAndFramed : Obligations.SaveIsAcceptedAndFramed := by
  refine ⟨fun via s taken => ?_, fun s b c r due hcase => ?_, fun s w hop work due => ?_,
    fun s w hop work => ?_⟩
  · by_cases ready : s.store.state = .idle ∧ s.table.state = .ready
    · obtain ⟨t, run, events, answered, store, frame⟩ := save_accepted taken ready.1 ready.2
      refine ⟨t, run, events, fun _ _ => ⟨answered, ?_⟩, fun busy => absurd ready busy⟩
      rw [store]
      exact ⟨rfl, rfl, rfl, rfl, ⟨_, rfl⟩, frame⟩
    · obtain ⟨t, run, answered, events, frame⟩ := save_refused taken ready
      exact ⟨t, run, events, fun store table => absurd ⟨store, table⟩ ready,
        fun _ => ⟨answered, frame⟩⟩
  · obtain ⟨request, row⟩ : r = b.request ∧
        (b = .save ∧ c = .beginSave ∨ b = .load ∧ c = .beginLoad) := by
      obtain ⟨rfl, rfl, rfl⟩ | ⟨rfl, rfl, rfl⟩ := hcase
      · exact ⟨rfl, .inl ⟨rfl, rfl⟩⟩
      · exact ⟨rfl, .inr ⟨rfl, rfl⟩⟩
    obtain ⟨same, waiting⟩ := begin_asks due row
    refine ⟨s.askBegin b, request ▸ askBegin_of_due due, same, fun waits => ?_⟩
    exact ⟨_, waiting waits, rfl, rfl, rfl,
      (unchangedBut_askBegin s b).trans (unchangedBut_quiet _)⟩
  · refine ⟨_, exec_beginSave hop work due, rfl, fun h hh => ?_, rfl, rfl,
      (((unchangedBut_complete s .store _).trans (unchangedBut_setWork _ _)).trans
        (unchangedBut_poll _ 400)).mono (by decide)⟩
    subst hh
    show Store.mk _ _ _ s.store.due = _
    rw [due]
    rfl
  · refine ⟨_, (exec_endSave hop).trans (congrArg _
      (afterEndSave_of_saving (s := s.quiet.complete .store _) work)), rfl, rfl, rfl, rfl, rfl,
      (((unchangedBut_complete s .store _).trans (unchangedBut_withStore _ _)).trans
        (unchangedBut_raise _ _)).mono (by decide)⟩

end Sys2Proof.Machine
end

section
/-! PROOFS. The engine after a sweep step (R132, R135, R136): how the context moves, when the sweep ends, and what it answers (R137). -/
namespace Sys2Proof.Machine

/-! ## The sweep answer (R137, R185) -/

/-- R185: the bytes of the sweep answer, with the stop reason and the last key written out. -/
theorem sweepAnswer_eq (c : SweepContext) (why : StopReason) :
    sweepAnswer c why = be32 c.lastGeneration ++
      [(match why with
        | .endOfRange => 0
        | .limit => 1
        | .abort => 2 : Byte)] ++ be16 c.examined ++ be16 c.changed ++ be16 c.skipped ++
      (match c.position with
        | none => [0, 0, 0]
        | some k => [1, byte k.row, byte k.col]) := by
  unfold sweepAnswer
  cases why <;> cases c.position <;> rfl

/-! ## Whether the sweep ends (R135, R136) -/

section
variable (c : SweepContext) {o : SweepOutcome}

/-- R136: the abort mark ends the sweep whatever the outcome (log entry 19). -/
theorem SweepContext.stop_of_marked : c.stop true o = some .abort := rfl

/-- R135: the end of the range. -/
theorem SweepContext.stop_of_endOfRange (ended : o = .endOfRange) :
    c.stop false o = some .endOfRange := by
  rw [ended]; rfl

/-- R135: the last change that the limit allows. -/
theorem SweepContext.stop_of_limit (changed : ∃ k, o = .changed k) (full : c.changed = c.limit) :
    c.stop false o = some .limit := by
  obtain ⟨k, rfl⟩ := changed
  exact if_pos full

/-- R132: with no mark, short of the end and of the limit, the sweep goes on. -/
theorem SweepContext.stop_of_goesOn (inRange : o ≠ .endOfRange)
    (room : ¬ ((∃ k, o = .changed k) ∧ c.changed = c.limit)) : c.stop false o = none := by
  cases o with
  | endOfRange => exact absurd rfl inRange
  | changed k => exact if_neg fun full => room ⟨⟨k, rfl⟩, full⟩
  | notMatched | unchanged | skipped => rfl

end

/-! ## What the engine does (R132, R135) -/

/-- R135: with a reason to stop, the sweep ends for it. -/
theorem sweepStepped_of_stop {s : State} {c : SweepContext} {mark : Bool} {o : SweepOutcome}
    {why : StopReason} (h : (c.after s.table.generation o).stop mark o = some why) :
    s.sweepStepped c mark o = s.endSweep (c.after s.table.generation o) why := by
  unfold State.sweepStepped; rw [h]

/-- R132: with none, the next step is asked for. -/
theorem sweepStepped_of_goesOn {s : State} {c : SweepContext} {mark : Bool} {o : SweepOutcome}
    (h : (c.after s.table.generation o).stop mark o = none) :
    s.sweepStepped c mark o = s.askSweepStep (c.after s.table.generation o) := by
  unfold State.sweepStepped; rw [h]

/-- R132: the request carries the context, which stays in hand with no abort mark. -/
theorem askSweepStep_of_hand {s : State} {job : Job} (hand : s.engine.hand = some job)
    (c : SweepContext) :
    (s.askSweepStep c).engine =
        { s.engine with hand := some { job with sweep := some ⟨.stepping c, false⟩ } } ∧
      (s.askSweepStep c).arbiter.engine =
        some (.sweepStep c.position c.filter c.action c.value) := by
  unfold State.askSweepStep
  rw [hand]
  simp [State.askEngine_eq]

theorem unchangedBut_sweepStepped (s : State) (c : SweepContext) (mark : Bool)
    (o : SweepOutcome) : UnchangedBut [.engine, .arbiter] s (s.sweepStepped c mark o) := by
  unfold State.sweepStepped
  split
  · exact (unchangedBut_respondHand s _ _).mono (by decide)
  · exact unchangedBut_askSweepStep s _

/-- The completion of a sweep step, with its outcome still to be acted on. -/
theorem exec_sweepStep {s : State} {position : Option Key} {f : SweepFilter} {a : SweepAction}
    {v : Word16} {c : SweepContext} {mark : Bool}
    (hop : s.arbiter.engineOp = some (.sweepStep position f a v))
    (hand : s.engine.hand = some ⟨0x25, .unit, some ⟨.stepping c, mark⟩⟩) :
    exec .sweepStep s =
      .next ((s.quiet.complete .engine
        (s.table.sweepStep s.arbiter.levelAtGrant position f a v).1).sweepStepped c mark
          (s.table.sweepStep s.arbiter.levelAtGrant position f a v).2) := by
  show execSweepStep s = _
  unfold execSweepStep
  rw [hop, hand]
  rfl

/-- R135, R137: a sweep that ends after a step has its answer in the buffer, and its operation is complete. -/
theorem sweepStepped_ends {s : State} {job : Job} (hand : s.engine.hand = some job)
    (unit : job.via = .unit) {x : Table} {c : SweepContext} {mark : Bool} {o : SweepOutcome}
    {why : StopReason} (h : (c.after x.generation o).stop mark o = some why) :
    HandAnswered s (if why = .abort then .aborted else .ok)
        (sweepAnswer (c.after x.generation o) why)
        ((s.quiet.complete .engine x).sweepStepped c mark o) ∧
      Completed s .engine ((s.quiet.complete .engine x).sweepStepped c mark o) := by
  rw [sweepStepped_of_stop h]
  exact ⟨handAnswered_respondHand (u := s.quiet.complete .engine x) rfl hand unit _ _,
    (completed_respondHand s x _ _).1⟩

/-- Settles O46: the context moves by the outcome; the mark, the end and the limit each end the sweep, and otherwise the next step is asked for. -/
theorem sweepStepMovesTheContext : Obligations.SweepStepMovesTheContext := by
  refine ⟨sweepAnswer_eq, fun s position f a v c mark o c' hop hand ho => ?_⟩
  refine ⟨_, exec_sweepStep hop hand, (keeps_sweepStepped ..).table,
    ((unchangedBut_complete s .engine _).trans (unchangedBut_sweepStepped ..)).mono (by decide),
    fun moved => ?_⟩
  rw [(keeps_sweepStepped ..).table, State.complete_table] at moved
  rw [← ho]
  generalize (s.table.sweepStep s.arbiter.levelAtGrant position f a v).1 = x at moved ⊢
  obtain rfl : c' = c.after x.generation o := by
    rw [moved]
    cases o <;> rfl
  refine ⟨fun marked => ?_, fun unmarked ended => ?_, fun unmarked changed full => ?_,
    fun unmarked inRange room => ?_⟩
  · subst marked
    exact sweepStepped_ends hand rfl (SweepContext.stop_of_marked _)
  · subst unmarked
    exact sweepStepped_ends hand rfl (SweepContext.stop_of_endOfRange _ ended)
  · subst unmarked
    exact sweepStepped_ends hand rfl (SweepContext.stop_of_limit _ changed full)
  · subst unmarked
    have goesOn := SweepContext.stop_of_goesOn (c.after x.generation o) inRange room
    rw [sweepStepped_of_goesOn (s := s.quiet.complete .engine x) goesOn]
    exact askSweepStep_of_hand (s := s.quiet.complete .engine x) hand _

end Sys2Proof.Machine
end

section
/-! PROOFS. The order of grants (R19, R20), and what no command but a reset or the completion of an operation does: it neither ends the operation in progress nor moves the level it read (R147). Each operation is walked through once, together with the laws of access control and of the arbiter (R147, R152). -/
namespace Sys2Proof.Machine

/-! ## The arbiter (R19, R20) -/

section
variable (a : Arbiter)

theorem Arbiter.nextClient_eq_none_iff : a.nextClient = none ↔ ∀ c, a.asks c = false := by
  unfold Arbiter.nextClient
  constructor
  · intro nobody c
    split_ifs at nobody with walker store monitor engine
    cases c with
    | walker => exact Bool.eq_false_iff.mpr walker
    | store => exact Bool.eq_false_iff.mpr store
    | monitor => exact Bool.eq_false_iff.mpr monitor
    | engine => exact Bool.eq_false_iff.mpr engine
  · intro nobody
    simp [nobody]

/-- R20: who is granted asks. -/
theorem Arbiter.asks_of_nextClient {a : Arbiter} {c : Client} (next : a.nextClient = some c) :
    a.asks c = true := by
  unfold Arbiter.nextClient at next
  split_ifs at next with walker store monitor engine
  all_goals
    obtain rfl := Option.some.inj next
    assumption

/-- R20: a free store is granted to the client that is next. -/
theorem Arbiter.granted_of_next {a : Arbiter} {c : Client} (level : AccessLevel)
    (free : a.inProgress = none) (next : a.nextClient = some c) :
    a.granted level = { a with inProgress := some c, levelAtGrant := level } := by
  unfold Arbiter.granted
  rw [free]
  dsimp only
  rw [next]

/-- R20: with nobody waiting a free store stays free. -/
theorem Arbiter.granted_of_nobody {a : Arbiter} (level : AccessLevel)
    (free : a.inProgress = none) (nobody : a.nextClient = none) : a.granted level = a := by
  unfold Arbiter.granted
  rw [free]
  dsimp only
  rw [nobody]

theorem Arbiter.granted_asks (level : AccessLevel) (c : Client) :
    (a.granted level).asks c = a.asks c := by
  cases c <;> simp [Arbiter.asks]

/-- R20: after a grant the store is free only if nobody waits, and the client in progress asks if it did before. -/
theorem Arbiter.lawful_granted {a : Arbiter} (level : AccessLevel)
    (asks : ∀ c, a.inProgress = some c → a.asks c = true) : (a.granted level).lawful := by
  unfold Arbiter.lawful
  rw [Arbiter.granted_inProgress]
  simp only [Arbiter.granted_asks]
  cases busy : a.inProgress with
  | some c => exact asks c busy
  | none =>
    cases next : a.nextClient with
    | none => exact a.nextClient_eq_none_iff.mp next
    | some c => exact Arbiter.asks_of_nextClient next

/-- R20: an operation in progress goes on under a grant, with the level it read. -/
theorem Arbiter.granted_keeps (level : AccessLevel) (busy : a.inProgress ≠ none) :
    a.granted level = a := by
  obtain ⟨c, hc⟩ := Option.ne_none_iff_exists'.mp busy
  exact a.granted_of_busy level c hc

/-- R20: the completion of an operation frees the store. -/
theorem Arbiter.released_inProgress (c : Client) : (a.released c).inProgress = none := by
  cases c <;> rfl

/-- R40: RESTART withdraws the requests of the walker and of the monitor, with the operation in progress if it is one of these. -/
theorem Arbiter.asks_of_restarted {a : Arbiter} {c : Client} (lawful : a.lawful)
    (busy : a.restarted.inProgress = some c) : a.restarted.asks c = true := by
  unfold Arbiter.lawful at lawful
  unfold Arbiter.restarted at busy ⊢
  cases h : a.inProgress with
  | none => simp [h] at busy
  | some d =>
    rw [h] at lawful busy
    cases d with
    | walker | monitor => cases busy
    | store | engine =>
      cases busy
      exact lawful

end

/-! ## What an operation carries over -/

/-- R20, R147, R152: the laws of access control and of the arbiter hold afterwards if they held before. -/
structure CarriesLaws (s t : State) : Prop where
  access : s.accessLawful → t.accessLawful
  arbiter : s.arbiter.lawful → t.arbiter.lawful

theorem CarriesLaws.refl (s : State) : CarriesLaws s s := ⟨id, id⟩

theorem CarriesLaws.trans {s t u : State} (h : CarriesLaws s t) (h' : CarriesLaws t u) :
    CarriesLaws s u := ⟨h'.access ∘ h.access, h'.arbiter ∘ h.arbiter⟩

/-- R20: besides, the operation in progress goes on, with the level it read. -/
structure KeepsGrant (s t : State) : Prop extends CarriesLaws s t where
  granted : s.arbiter.inProgress ≠ none →
    t.arbiter.inProgress = s.arbiter.inProgress ∧
      t.arbiter.levelAtGrant = s.arbiter.levelAtGrant

theorem KeepsGrant.refl (s : State) : KeepsGrant s s := ⟨.refl s, fun _ => ⟨rfl, rfl⟩⟩

theorem KeepsGrant.trans {s t u : State} (h : KeepsGrant s t) (h' : KeepsGrant t u) :
    KeepsGrant s u where
  toCarriesLaws := h.toCarriesLaws.trans h'.toCarriesLaws
  granted busy := by
    obtain ⟨inProgress, level⟩ := h.granted busy
    rw [← inProgress, ← level]
    exact h'.granted (inProgress ▸ busy)

/-- What leaves the arbiter and keeps the laws of access control. -/
theorem KeepsGrant.of_arbiter {s t : State} (arbiter : t.arbiter = s.arbiter)
    (access : s.accessLawful → t.accessLawful) : KeepsGrant s t where
  access := access
  arbiter lawful := arbiter ▸ lawful
  granted _ := by rw [arbiter]; exact ⟨rfl, rfl⟩

/-- The laws of access control are read in the access block and the pins. -/
theorem accessLawful_congr {s t : State} (access : t.access = s.access) (pins : t.pins = s.pins)
    (lawful : s.accessLawful) : t.accessLawful := by
  unfold State.accessLawful
  rw [access, pins]
  exact lawful

/-- What leaves the access block, the pins and the arbiter. -/
theorem KeepsGrant.of_keeps {s t : State} (keeps : KeepsData s t)
    (arbiter : t.arbiter = s.arbiter) : KeepsGrant s t :=
  .of_arbiter arbiter (accessLawful_congr keeps.access keeps.pins)

/-- As `of_keeps`, from a frame. -/
theorem KeepsGrant.of_frame {bs : List Block} {s t : State} (h : UnchangedBut bs s t)
    (other : Block.arbiter ∉ bs ∧ Block.access ∉ bs ∧ Block.pins ∉ bs := by decide) :
    KeepsGrant s t :=
  .of_arbiter (h.1 .arbiter other.1)
    (accessLawful_congr (h.1 .access other.2.1) (h.1 .pins other.2.2))

/-- R20: a request that joins the others leads to a grant only if the store is free. -/
theorem keepsGrant_asked {s : State} {a : Arbiter}
    (more : ∀ c, s.arbiter.asks c = true → a.asks c = true)
    (inProgress : a.inProgress = s.arbiter.inProgress := by rfl)
    (level : a.levelAtGrant = s.arbiter.levelAtGrant := by rfl) :
    KeepsGrant s (s.withArbiter (a.granted s.access.level)) where
  access := id
  arbiter lawful := Arbiter.lawful_granted _ fun c hc => more c (by
    rw [inProgress] at hc
    unfold Arbiter.lawful at lawful
    rw [hc] at lawful
    exact lawful)
  granted busy := by
    rw [← inProgress] at busy
    rw [State.withArbiter_arbiter, a.granted_keeps _ busy]
    exact ⟨inProgress, level⟩

section
variable (s : State)

theorem keepsGrant_askWalker (r : WalkerReq) : KeepsGrant s (s.askWalker r) :=
  keepsGrant_asked fun c => by cases c <;> simp [Arbiter.asks]

theorem keepsGrant_askStore (r : StoreReq) : KeepsGrant s (s.askStore r) :=
  keepsGrant_asked fun c => by cases c <;> simp [Arbiter.asks]

theorem keepsGrant_askMonitor (r : MonitorReq) : KeepsGrant s (s.askMonitor r) :=
  keepsGrant_asked fun c => by cases c <;> simp [Arbiter.asks]

theorem keepsGrant_askEngine (r : EngineReq) : KeepsGrant s (s.askEngine r) :=
  keepsGrant_asked fun c => by cases c <;> simp [Arbiter.asks]

/-- R20: a completion leaves the store to the next client, or free with nobody waiting. -/
theorem carriesLaws_complete (c : Client) (x : Table) : CarriesLaws s (s.complete c x) where
  access := id
  arbiter _ := Arbiter.lawful_granted _ fun d hd => by
    rw [s.arbiter.released_inProgress c] at hd
    cases hd

end

/-! ## The fault monitor -/

theorem takeAsks_arbiter (l : List MonitorAsk) :
    ∀ s : State, (l.foldl State.takeAsk s).arbiter = s.arbiter := by
  induction l with
  | nil => exact fun s => rfl
  | cons a l ih => exact fun s => (ih _).trans (takeAsk_arbiter s a)

section
variable (s : State)

/-- R68: a step point asks for nothing, whatever the change of the monitor before it. -/
theorem keepsGrant_settled (m : Monitor) : KeepsGrant s (s.withMonitor m).stepPoint :=
  .of_keeps ((s.withMonitor_keeps m).trans (inMonitor_stepPoint _).keeps) (takeAsks_arbiter _ _)

theorem keepsGrant_withMonitor (m : Monitor) : KeepsGrant s (s.withMonitor m) :=
  .of_frame (unchangedBut_withMonitor s m)

theorem keepsGrant_askOfMonitor (a : MonitorAsk) : KeepsGrant s (s.askOfMonitor a) :=
  .of_keeps (inMonitor_askOfMonitor s a).keeps (askOfMonitor_arbiter s a)

theorem keepsGrant_monitorIdle : KeepsGrant s s.monitorIdle := keepsGrant_settled s _

theorem keepsGrant_abandonReport : KeepsGrant s s.abandonReport := keepsGrant_settled s _

end

section
variable {onEnd : State → State} (hEnd : ∀ s, KeepsGrant s (onEnd s))
include hEnd

theorem keepsGrant_finishEntries (s : State) : KeepsGrant s (s.finishEntries onEnd) := by
  cases inHand : s.monitor.inHand with
  | none =>
    unfold State.finishEntries
    rw [inHand]
    exact .refl s
  | some r =>
    have removed := keepsGrant_settled s (s.monitor.unseenRemoved r)
    rw [finishEntries_eq inHand rfl]
    split
    · exact removed
    · split
      · exact removed.trans (hEnd _)
      · exact removed.trans ((keepsGrant_withMonitor _ _).trans (keepsGrant_askMonitor _ _))

theorem keepsGrant_handleEntries (es : List ReportEntry) :
    ∀ (before : Option ReportEntry) (s : State),
      KeepsGrant s (s.handleEntries onEnd before es) := by
  induction es with
  | nil =>
    intro before s
    rw [State.handleEntries]
    exact keepsGrant_finishEntries hEnd s
  | cons e es ih =>
    intro before s
    unfold State.handleEntries
    split
    · exact .refl s
    · exact keepsGrant_askMonitor s _
    · dsimp only
      split
      · exact keepsGrant_settled s _
      · exact (keepsGrant_settled s _).trans (ih _ _)

theorem keepsGrant_continueEntries (s : State) : KeepsGrant s (s.continueEntries onEnd) := by
  unfold State.continueEntries
  split
  · exact .refl s
  · exact keepsGrant_handleEntries hEnd _ _ _

theorem keepsGrant_checkSuspects (s : State) : KeepsGrant s (s.checkSuspects onEnd) := by
  unfold State.checkSuspects
  split
  · exact keepsGrant_askMonitor s _
  · exact keepsGrant_continueEntries hEnd s

theorem keepsGrant_takeReport (r : Report) (s : State) : KeepsGrant s (s.takeReport onEnd r) := by
  unfold State.takeReport
  dsimp only
  split
  · exact keepsGrant_settled s _
  · exact (keepsGrant_settled s _).trans (keepsGrant_checkSuspects hEnd _)

end

section
variable (s : State)

theorem keepsGrant_endReport : KeepsGrant s s.endReport := by
  unfold State.endReport
  split
  · exact keepsGrant_monitorIdle s
  · exact (keepsGrant_withMonitor s _).trans (keepsGrant_takeReport keepsGrant_monitorIdle _ _)

theorem keepsGrant_entryHandled : KeepsGrant s s.entryHandled := by
  unfold State.entryHandled
  dsimp only
  split
  · exact keepsGrant_settled s _
  · exact (keepsGrant_settled s _).trans (keepsGrant_continueEntries keepsGrant_endReport _)

theorem keepsGrant_reportArrives (r : Report) : KeepsGrant s (s.reportArrives r) := by
  unfold State.reportArrives
  split
  · exact .refl s
  · split
    · exact .refl s
    · exact keepsGrant_takeReport keepsGrant_endReport _ s
  all_goals
    split
    · exact .of_frame (unchangedBut_raise s _)
    · exact keepsGrant_withMonitor s _

variable (k : Key) (c : Colour)

theorem keepsGrant_suspectNamed (kind : FaultKind) (f : FrameNo) :
    KeepsGrant s (s.suspectNamed k c kind f) := by
  have listed := fun l => KeepsGrant.of_frame (unchangedBut_setSuspects s l)
  unfold State.suspectNamed
  split
  · split
    · exact (listed _).trans (keepsGrant_askMonitor _ _)
    · exact (listed _).trans (keepsGrant_entryHandled _)
  · split
    · exact (KeepsGrant.of_frame (unchangedBut_raise s _)).trans (keepsGrant_entryHandled _)
    · exact (listed _).trans (keepsGrant_entryHandled _)

theorem keepsGrant_faultUpdated (kind : FaultKind) (f : FrameNo) (o : UpdateOutcome) :
    KeepsGrant s (s.faultUpdated k c kind f o) := by
  by_cases loading : o = .loading
  · subst loading
    exact keepsGrant_abandonReport s
  · by_cases none : o = .none
    · subst none
      exact keepsGrant_suspectNamed s k c kind f
    · rw [faultUpdated_of_record s k c kind f loading none]
      exact (KeepsGrant.of_frame (unchangedBut_withEvents s _)).trans (keepsGrant_entryHandled _)

theorem keepsGrant_promotionAnswered (o : PromotionOutcome) :
    KeepsGrant s (s.promotionAnswered k c o) := by
  by_cases loading : o = .loading
  · subst loading
    exact keepsGrant_abandonReport s
  · rw [promotionAnswered_eq s k c loading]
    exact (KeepsGrant.of_frame ((unchangedBut_setSuspects s _).trans
      (unchangedBut_withEvents _ _))).trans (keepsGrant_entryHandled _)

theorem keepsGrant_suspectChecked (o : FindOutcome) : KeepsGrant s (s.suspectChecked o) := by
  have checked := fun m => (keepsGrant_withMonitor s m).trans
    (keepsGrant_checkSuspects keepsGrant_endReport _)
  cases o with
  | loading => exact keepsGrant_abandonReport s
  | found | none => exact checked _

theorem keepsGrant_nextHealStep : KeepsGrant s (s.nextHealStep k) := by
  unfold State.nextHealStep
  dsimp only
  split
  · exact keepsGrant_settled s _
  · exact (keepsGrant_settled s _).trans (keepsGrant_askMonitor _ _)

theorem keepsGrant_healStepped (o : HealOutcome) : KeepsGrant s (s.healStepped o) := by
  cases o with
  | loading => exact keepsGrant_abandonReport s
  | endOfPass => exact keepsGrant_endReport s
  | counted k | deferred k => exact keepsGrant_nextHealStep s k
  | healed k =>
    exact (KeepsGrant.of_frame (unchangedBut_withEvents s _)).trans (keepsGrant_nextHealStep _ k)

end

/-! ## The raster walker -/

section
variable (s : State)

theorem keepsGrant_driveNext : KeepsGrant s s.driveNext := by
  unfold State.driveNext
  split
  · exact keepsGrant_askWalker s _
  · exact .refl s

theorem keepsGrant_levelArrives (l : Level) : KeepsGrant s (s.levelArrives l) := by
  have written := fun w => KeepsGrant.of_frame (unchangedBut_withWalker s w)
  unfold State.levelArrives
  repeat' split
  · exact .refl s
  · exact written _
  · exact (written _).trans (keepsGrant_driveNext _)
  · exact .refl s

theorem keepsGrant_beginFrame : KeepsGrant s s.beginFrame := by
  have levels (l : List Level) : ∀ u : State, KeepsGrant u (l.foldl State.levelArrives u) := by
    induction l with
    | nil => exact fun u => .refl u
    | cons a l ih => exact fun u => (keepsGrant_levelArrives u a).trans (ih _)
  exact (KeepsGrant.of_frame ((unchangedBut_withWalker s _).trans (unchangedBut_drive _ _))).trans
    (levels _ _)

theorem keepsGrant_loseVideo : KeepsGrant s s.loseVideo :=
  .of_keeps (keeps_loseVideo s) (loseVideo_arbiter s)

theorem keepsGrant_endAbandoned (e : Ending) : KeepsGrant s (s.endAbandoned e) := by
  cases e with
  | short => exact (KeepsGrant.of_frame (unchangedBut_raise s _)).trans (keepsGrant_beginFrame _)
  | lost => exact keepsGrant_loseVideo s

theorem keepsGrant_emitterDriven : KeepsGrant s s.emitterDriven := by
  unfold State.emitterDriven
  split
  · exact .of_keeps (keeps_completeFrame s) (completeFrame_arbiter s)
  · exact (KeepsGrant.of_frame (unchangedBut_withWalker s _)).trans (keepsGrant_driveNext _)

theorem keepsGrant_emitterFound (found : Option Record) : KeepsGrant s (s.emitterFound found) := by
  have driven := KeepsGrant.of_frame (unchangedBut_driven s found)
  unfold State.emitterFound
  split
  · exact keepsGrant_endAbandoned s _
  · dsimp only
    split
    · exact driven.trans (keepsGrant_emitterDriven _)
    · exact driven.trans (keepsGrant_askWalker _ _)

theorem keepsGrant_emitterStamped : KeepsGrant s s.emitterStamped := by
  unfold State.emitterStamped
  split
  · exact keepsGrant_endAbandoned s _
  · exact keepsGrant_emitterDriven s

theorem keepsGrant_abandonFrame (e : Ending) : KeepsGrant s (s.abandonFrame e) := by
  unfold State.abandonFrame
  split
  · exact keepsGrant_endAbandoned s e
  · exact .of_frame (unchangedBut_withWalker s _)

theorem keepsGrant_frameStartArrives : KeepsGrant s s.frameStartArrives := by
  have written := fun w => KeepsGrant.of_frame (unchangedBut_withWalker s w)
  unfold State.frameStartArrives
  split
  iterate 3
    split
    · exact written _
    · exact keepsGrant_beginFrame s
  split
  · exact written _
  · exact written _
  · split
    · exact written _
    · exact keepsGrant_abandonFrame s _

theorem keepsGrant_takeHeldFrameStart : KeepsGrant s s.takeHeldFrameStart := by
  unfold State.takeHeldFrameStart
  split
  · exact keepsGrant_beginFrame s
  · exact .refl s

theorem keepsGrant_timerExpires : KeepsGrant s s.timerExpires := by
  unfold State.timerExpires
  repeat' split
  · exact .refl s
  · exact .refl s
  · exact .refl s
  · exact keepsGrant_loseVideo s
  · exact .refl s
  · exact .of_frame (unchangedBut_withWalker s _)
  · exact keepsGrant_abandonFrame s _

theorem keepsGrant_blankSent : KeepsGrant s s.blankSent := by
  unfold State.blankSent
  split
  · exact .refl s
  · exact .of_frame ((unchangedBut_withWalker s _).trans (unchangedBut_drive _ _))

end

/-! ## Access control (R147 to R154) -/

/-- R152, R153: a violation recorded keeps the further-count within its laws. -/
theorem keepsGrant_reportViolation (s : State) (v : Violation) :
    KeepsGrant s (s.reportViolation v) := by
  refine .of_arbiter (s.reportViolation_arbiter v) ?_
  rintro ⟨level, -, further⟩
  unfold State.reportViolation
  split
  · exact ⟨level, nofun, further⟩
  · rename_i recorded
    exact ⟨level, fun absent => absurd (recorded.symm.trans absent) nofun, Nat.min_le_right _ _⟩

/-- R148: a change of SVC_EN leaves no SERVICE without it. -/
theorem keepsGrant_svcEnChanges (s : State) (asserted : Bool) :
    KeepsGrant s (s.svcEnChanges asserted) := by
  unfold State.svcEnChanges
  dsimp only
  split
  · refine .of_arbiter rfl ?_
    rintro ⟨-, unrecorded, further⟩
    exact ⟨nofun, unrecorded, further⟩
  · rename_i stays
    refine .of_arbiter rfl ?_
    rintro ⟨-, unrecorded, further⟩
    exact ⟨fun service => by_contra fun low => stays ⟨Bool.eq_false_iff.mpr low, service⟩,
      unrecorded, further⟩

/-- R149: only SVC_EN opens SERVICE. -/
theorem keepsGrant_startOpenService (s : State) : KeepsGrant s s.startOpenService := by
  unfold State.startOpenService
  split
  · rename_i asserted
    refine .of_arbiter rfl ?_
    rintro ⟨-, unrecorded, further⟩
    exact ⟨fun _ => asserted, unrecorded, further⟩
  · exact (keepsGrant_reportViolation s _).trans (.of_frame (unchangedBut_respond _ _ _ _))

/-- R150. -/
theorem keepsGrant_startCloseService (via : Via) (s : State) :
    KeepsGrant s (s.startCloseService via) := by
  refine .of_arbiter rfl ?_
  rintro ⟨-, unrecorded, further⟩
  exact ⟨nofun, unrecorded, further⟩

/-- R154: the record and its count are cleared together. -/
theorem keepsGrant_startReadViolation (s : State) : KeepsGrant s s.startReadViolation := by
  refine .of_arbiter rfl ?_
  rintro ⟨level, -, -⟩
  exact ⟨level, fun _ => rfl, Nat.zero_le _⟩

/-! ## The port and the commands as they are taken -/

section
variable (s : State)

theorem keepsGrant_bus (items : List PortItem) : KeepsGrant s (s.bus items) :=
  .of_keeps (s.bus_keeps items) rfl

theorem keepsGrant_setWrite (w : PortWrite) : KeepsGrant s (s.setWrite w) :=
  .of_keeps (keeps_setWrite s w) rfl

theorem keepsGrant_acceptRequest : KeepsGrant s s.acceptRequest := by
  refine .of_keeps (keeps_acceptRequest s) ?_
  unfold State.acceptRequest
  split <;> rfl

theorem keepsGrant_unitFirstByte (b : Byte) : KeepsGrant s (s.unitFirstByte b) := by
  unfold State.unitFirstByte
  repeat' split
  · exact (keepsGrant_setWrite s _).trans (keepsGrant_bus _ _)
  · exact ((keepsGrant_acceptRequest s).trans (keepsGrant_setWrite _ _)).trans (keepsGrant_bus _ _)
  · exact (keepsGrant_setWrite s _).trans (keepsGrant_bus _ _)

theorem keepsGrant_groupFirstByte : KeepsGrant s s.groupFirstByte := by
  unfold State.groupFirstByte
  split
  all_goals exact (keepsGrant_setWrite s _).trans (keepsGrant_bus _ _)

theorem keepsGrant_acceptWrite (via : Via) : KeepsGrant s (s.acceptWrite via) :=
  .of_keeps (keeps_acceptWrite s via) (acceptWrite_arbiter s via)

theorem keepsGrant_discardWrite (via : Via) : KeepsGrant s (s.discardWrite via) :=
  (keepsGrant_setWrite s _).trans (keepsGrant_bus _ _)

theorem keepsGrant_readAnswer (n : Nat) : KeepsGrant s (s.readAnswer n) := by
  refine .of_keeps (keeps_readAnswer s n) ?_
  unfold State.readAnswer
  repeat' split
  all_goals rfl

theorem keepsGrant_abortEnds : KeepsGrant s s.abortEnds := by
  refine .of_keeps (keeps_abortEnds s) ?_
  unfold State.abortEnds State.takeAbort
  repeat' split
  all_goals rfl

theorem keepsGrant_respond (via : Via) (code : ResultCode) (data : List Byte) :
    KeepsGrant s (s.respond via code data) := .of_frame (unchangedBut_respond s via code data)

theorem keepsGrant_respondHand (code : ResultCode) (data : List Byte) :
    KeepsGrant s (s.respondHand code data) := .of_frame (unchangedBut_respondHand s code data)

theorem keepsGrant_withEngine (x : Engine) : KeepsGrant s (s.withEngine x) :=
  .of_keeps (s.withEngine_keeps x) rfl

theorem keepsGrant_startTableCommand (code : Byte) (r : EngineReq) :
    KeepsGrant s (s.startTableCommand code r) :=
  (keepsGrant_withEngine s _).trans (keepsGrant_askEngine _ r)

/-- R80, R82, R83: a command that waits for the monitor. -/
theorem keepsGrant_posted (code : Byte) (via : Via) (a : MonitorAsk) :
    KeepsGrant s ((s.takeInHand code via).askOfMonitor a) :=
  (keepsGrant_withEngine s _).trans (keepsGrant_askOfMonitor _ a)

/-- R183: a parsed request but for RESTART, handed to the engine. -/
theorem keepsGrant_startCommand (via : Via) (i : Instr) (other : ∀ v, i ≠ .restart v) :
    KeepsGrant s (s.startCommand via i) := by
  have answered := keepsGrant_respond s
  have asked := keepsGrant_startTableCommand s
  cases i <;> simp only [State.startCommand]
  case restart v => exact absurd rfl (other v)
  case describe => exact answered _ _ _
  case readEvents =>
    exact .of_frame ((unchangedBut_withEvents s _).trans (unchangedBut_respond _ _ _ _))
  case setEventMask m =>
    unfold State.startSetEventMask
    split
    · exact answered _ _ _
    · exact .of_frame ((unchangedBut_withEvents s _).trans (unchangedBut_respond _ _ _ _))
  case readViolation => exact keepsGrant_startReadViolation s
  case openService => exact keepsGrant_startOpenService s
  case closeService => exact keepsGrant_startCloseService via s
  case setGeometry r c =>
    unfold State.startSetGeometry
    split
    · exact answered _ _ _
    · exact asked _ _
  case setDrive v d i =>
    unfold State.startSetDrive
    split
    · exact answered _ _ _
    · split
      · exact .of_frame ((unchangedBut_withWalker s _).trans (unchangedBut_respond _ _ _ _))
      · exact answered _ _ _
  case setMonitor v d h e =>
    unfold State.startSetMonitor
    split
    · exact keepsGrant_posted s _ _ _
    · exact answered _ _ _
  case sweep p => exact (keepsGrant_withEngine s _).trans (keepsGrant_askEngine _ _)
  case suspects => exact keepsGrant_posted s _ _ _
  case clearSuspects => exact keepsGrant_posted s _ _ _
  case save v =>
    unfold State.startSave
    split
    · exact .of_frame ((unchangedBut_startStore s _ _).trans (unchangedBut_respond _ _ _ _))
    · exact answered _ _ _
  case load =>
    unfold State.startLoad
    split
    · exact asked _ _
    · exact answered _ _ _
  case status | insert | amend | retire | lookup | next => exact asked _ _
  all_goals exact .refl s

end

/-- R177, R180: a write that carries a command is accepted before the command is carried out, or is discarded. -/
theorem keepsGrant_takeCommand (s : State) (via : Via) (code : Byte) {body : State → State}
    (h : ∀ u, KeepsGrant u (body u)) : KeepsGrant s (s.takeCommand via code body) := by
  unfold State.takeCommand
  split
  · exact keepsGrant_discardWrite s via
  · exact ((keepsGrant_acceptWrite s via).trans (keepsGrant_bus _ _)).trans (h _)

/-! ## RESTART and the writes that may carry it (R183) -/

/-- R40, R155: RESTART leaves the level OPERATOR, no violation, and the requests of the store and the engine. -/
theorem carriesLaws_startRestart (via : Via) (s : State) : CarriesLaws s (s.startRestart via) := by
  unfold State.startRestart
  split
  · refine ⟨fun _ => ⟨nofun, fun _ => rfl, Nat.zero_le _⟩, fun lawful => ?_⟩
    rw [s.restartBlocks_arbiter]
    exact Arbiter.lawful_granted _ fun c => Arbiter.asks_of_restarted lawful
  · exact (keepsGrant_respond s _ _ _).toCarriesLaws

theorem carriesLaws_startCommand (via : Via) (i : Instr) (s : State) :
    CarriesLaws s (s.startCommand via i) := by
  by_cases restart : ∃ v, i = .restart v
  · obtain ⟨v, rfl⟩ := restart
    exact carriesLaws_startRestart via s
  · exact (keepsGrant_startCommand s via i fun v hv => restart ⟨v, hv⟩).toCarriesLaws

theorem carriesLaws_unitRequest (bytes : List Byte) (s : State) :
    CarriesLaws s (s.unitRequest bytes) := by
  unfold State.unitRequest
  split
  · exact (keepsGrant_respond s _ _ _).toCarriesLaws
  · exact (keepsGrant_respond s _ _ _).toCarriesLaws
  · exact carriesLaws_startCommand _ _ s

theorem carriesLaws_groupRequest (bytes : List Byte) (s : State) :
    CarriesLaws s (s.groupRequest bytes) := by
  unfold State.groupRequest
  split
  · exact .refl s
  · exact .refl s
  · split
    · exact carriesLaws_startCommand _ _ s
    · exact .refl s

theorem carriesLaws_writeEnds (s : State) (via : Via) (bytes : List Byte) :
    CarriesLaws s (s.writeEnds via bytes) := by
  unfold State.writeEnds
  split
  · exact ((keepsGrant_setWrite s _).trans (keepsGrant_bus _ _)).toCarriesLaws
  · split
    · exact (keepsGrant_abortEnds s).toCarriesLaws
    · split
      · exact (keepsGrant_discardWrite s via).toCarriesLaws
      · have taken := fun n => ((keepsGrant_acceptWrite s via).trans
          (keepsGrant_bus _ (s.endItems via n))).toCarriesLaws
        cases via with
        | unit => exact (taken _).trans (carriesLaws_unitRequest _ _)
        | group => exact (taken _).trans (carriesLaws_groupRequest _ _)

end Sys2Proof.Machine
end

section
/-! PROOFS. The laws of access control and of the arbiter (R20, R147, R152) under the engine's outcomes, the image store and each command; and the invariants that follow. -/
namespace Sys2Proof.Machine

/-! ## Outcomes of the engine's operations -/

section
variable (s : State)

theorem keepsGrant_answerEdit (c : ResultCode) (o : EditOutcome) :
    KeepsGrant s (s.answerEdit c o) := .of_frame (unchangedBut_answerEdit s c o)

/-- R109: a refusal that is protected records its violation first. -/
theorem keepsGrant_answerGuarded (code : Byte) (k : Key) (l : AccessLevel) (o : EditOutcome) :
    KeepsGrant s (s.answerGuarded code k l o) := by
  unfold State.answerGuarded
  split
  · exact (keepsGrant_reportViolation s _).trans (keepsGrant_answerEdit _ _ _)
  · exact keepsGrant_answerEdit s _ _

theorem keepsGrant_geometryAnswered (b g : Geometry) (c : Bool) :
    KeepsGrant s (s.geometryAnswered b g c) := by
  have answered := keepsGrant_respondHand s
  unfold State.geometryAnswered
  repeat' split
  · exact answered _ _
  · exact (answered _ _).trans (keepsGrant_askOfMonitor _ _)
  · exact answered _ _

theorem keepsGrant_protectionAnswered (l : AccessLevel) (p : Bool) :
    KeepsGrant s (s.protectionAnswered l p) := by
  unfold State.protectionAnswered
  split
  · exact .of_frame ((unchangedBut_startStore s _ _).trans (unchangedBut_respondHand _ _ _))
  · exact (keepsGrant_reportViolation s _).trans (keepsGrant_respondHand _ _ _)

theorem keepsGrant_askSweepStep (c : SweepContext) : KeepsGrant s (s.askSweepStep c) := by
  unfold State.askSweepStep
  split
  · exact .refl s
  · exact (keepsGrant_withEngine s _).trans (keepsGrant_askEngine _ _)

theorem keepsGrant_sweepStepped (c : SweepContext) (m : Bool) (o : SweepOutcome) :
    KeepsGrant s (s.sweepStepped c m o) := by
  unfold State.sweepStepped
  split
  · exact keepsGrant_respondHand s _ _
  · exact keepsGrant_askSweepStep s _

theorem keepsGrant_statusAnswered : KeepsGrant s s.statusAnswered := by
  have answered := keepsGrant_respondHand s
  unfold State.statusAnswered
  split
  · exact .refl s
  · split
    · unfold State.sweepStarted
      repeat' split
      · exact answered _ _
      · exact answered _ _
      · exact keepsGrant_askSweepStep s _
    · exact .refl s
    · exact answered _ _

end

/-! ## The image store -/

section
variable (s : State)

theorem keepsGrant_setWork (w : StoreWork) : KeepsGrant s (s.setWork w) :=
  .of_frame (unchangedBut_setWork s w)

theorem keepsGrant_poll (n : Nat) : KeepsGrant s (s.poll n) := .of_frame (unchangedBut_poll s n)

theorem keepsGrant_setFlash (op : FlashOp) : KeepsGrant s (s.setFlash op) :=
  .of_frame (unchangedBut_withStore s _)

theorem keepsGrant_storeAsks (r : StoreReq) : KeepsGrant s (s.storeAsks r) :=
  (keepsGrant_setFlash s _).trans (keepsGrant_askStore _ r)

theorem keepsGrant_askBegin (b : BeginReq) : KeepsGrant s (s.askBegin b) := by
  unfold State.askBegin
  split
  · exact (KeepsGrant.of_frame (unchangedBut_withStore s _)).trans (keepsGrant_askStore _ _)
  · exact .refl s

theorem keepsGrant_saveNext (w : SaveWork) : KeepsGrant s (s.saveNext w) := by
  have array := fun c => KeepsGrant.of_frame (unchangedBut_beginArray s c)
  unfold State.saveNext
  repeat' split
  · exact array _
  · exact keepsGrant_storeAsks s _
  · exact array _
  · exact .refl s
  · exact array _
  · exact keepsGrant_storeAsks s _

theorem keepsGrant_loadNext (w : LoadWork) (h : Header) : KeepsGrant s (s.loadNext w h) := by
  unfold State.loadNext
  repeat' split
  · exact .of_frame (unchangedBut_beginRead s _ _)
  · exact (KeepsGrant.of_frame (unchangedBut_withWalker s _)).trans (keepsGrant_storeAsks _ _)
  · exact keepsGrant_storeAsks s _

theorem keepsGrant_headerRead (w : LoadWork) (b : List Byte) :
    KeepsGrant s (s.headerRead w b) := by
  unfold State.headerRead
  split
  · exact keepsGrant_storeAsks s _
  · exact (keepsGrant_setWork s _).trans (keepsGrant_storeAsks _ _)

theorem keepsGrant_slotRead (w : LoadWork) (b : List Byte) : KeepsGrant s (s.slotRead w b) := by
  unfold State.slotRead
  repeat' split
  · exact keepsGrant_storeAsks s _
  · exact (keepsGrant_setWork s _).trans (keepsGrant_storeAsks _ _)
  · exact keepsGrant_storeAsks s _

theorem keepsGrant_afterEndSave : KeepsGrant s s.afterEndSave := by
  refine .of_keeps (keeps_afterEndSave s) ?_
  unfold State.afterEndSave
  repeat' split
  all_goals rfl

/-- R166: the end of a load writes the settings and tells the monitor. -/
theorem keepsGrant_loadEnds (w : LoadWork) (ok : Bool) (driveMax : Nat) (interval : ProbeInterval)
    (a : MonitorAsk) :
    KeepsGrant s (((s.setDrive driveMax interval).setWork
      (.loading { w with ended := some ok })).askOfMonitor a) :=
  (KeepsGrant.of_frame ((unchangedBut_withWalker s _).trans (unchangedBut_setWork _ _))).trans
    (keepsGrant_askOfMonitor _ a)

end

/-! ## Every command -/

theorem keepsGrant_next {s t : State} (h : KeepsGrant s.quiet t) :
    ∃ u, Host.Outcome.next (φ := Fault) (ρ := Refusal) t = .next u ∧ KeepsGrant s u :=
  ⟨t, rfl, (KeepsGrant.of_frame (unchangedBut_quiet s)).trans h⟩

theorem carriesLaws_next {s t : State} (h : CarriesLaws s.quiet t) :
    ∃ u, Host.Outcome.next (φ := Fault) (ρ := Refusal) t = .next u ∧ CarriesLaws s u :=
  ⟨t, rfl, (KeepsGrant.of_frame (unchangedBut_quiet s)).toCarriesLaws.trans h⟩

/-- A command of the service port, but for RESTART. -/
theorem keepsGrant_command (s : State) (via : Via) (code : Byte) (i : Instr)
    (other : ∀ v, i ≠ .restart v := by nofun) :
    ∃ u, Host.Outcome.next (φ := Fault) (ρ := Refusal)
      (s.quiet.takeCommand via code (State.startCommand via i)) = .next u ∧ KeepsGrant s u :=
  keepsGrant_next (keepsGrant_takeCommand s.quiet via code fun u =>
    keepsGrant_startCommand u via i other)

/-- Log entry 2: the rows that complete a table operation, among them the two that ask for theirs first (log entry 29). -/
def tableRows : List Instr :=
  [.findByKey, .findFirstAtOrAfter, .tableInsert, .promotionInsert, .tableAmend, .remove,
    .faultUpdate, .stampProbeFrame, .sweepStep, .healStep, .statusRead, .geometryChange,
    .protectionTest, .beginSave, .saveRead, .endSave, .beginLoad, .loadGeometry, .loadInsert,
    .endLoad]

/-- R20: every other row but the resets leaves the operation in progress to go on, with the level it read. -/
theorem exec_keepsGrant (c : Instr) (s : State) (notReset : ∀ a, c ≠ .hardReset a)
    (notRestart : ∀ via, c ≠ .restart via) (notWrite : ∀ a x, c ≠ .requestWrite a x)
    (notRow : c ∉ tableRows) : ∃ t, exec c s = .next t ∧ KeepsGrant s t := by
  cases c
  case hardReset a => exact absurd rfl (notReset a)
  case restart via => exact absurd rfl (notRestart via)
  case requestWrite a x => exact absurd rfl (notWrite a x)
  case svcEnChange a => exact keepsGrant_next (keepsGrant_svcEnChanges _ a)
  case frameStart => exact keepsGrant_next (keepsGrant_frameStartArrives _)
  case heldFrameStart => exact keepsGrant_next (keepsGrant_takeHeldFrameStart _)
  case pixelLevel l => exact keepsGrant_next (keepsGrant_levelArrives _ l)
  case videoTimerExpiry => exact keepsGrant_next (keepsGrant_timerExpires _)
  case blankSendOver => exact keepsGrant_next (keepsGrant_blankSent _)
  case faultReport r => exact keepsGrant_next (keepsGrant_reportArrives _ r)
  case requestAccept a b =>
    refine keepsGrant_next ?_
    split
    · exact keepsGrant_bus _ _
    · exact (keepsGrant_bus _ _).trans (keepsGrant_unitFirstByte _ b)
    · exact (keepsGrant_bus _ _).trans (keepsGrant_groupFirstByte _)
  case answerRead a n =>
    refine keepsGrant_next ?_
    split
    · exact keepsGrant_readAnswer _ n
    all_goals exact keepsGrant_bus _ _
  case abort n => exact keepsGrant_next (keepsGrant_abortEnds _)
  case describe => exact keepsGrant_command s .unit 0x01 .describe
  case status => exact keepsGrant_command s .unit 0x02 .status
  case readEvents => exact keepsGrant_command s .unit 0x03 .readEvents
  case setEventMask m => exact keepsGrant_command s .unit 0x04 (.setEventMask m)
  case readViolation => exact keepsGrant_command s .unit 0x05 .readViolation
  case openService => exact keepsGrant_command s .unit 0x06 .openService
  case closeService via => exact keepsGrant_command s via 0x07 (.closeService via)
  case setGeometry r c => exact keepsGrant_command s .unit 0x10 (.setGeometry r c)
  case setDrive via d i => exact keepsGrant_command s via 0x11 (.setDrive via d i)
  case setMonitor via d h e => exact keepsGrant_command s via 0x12 (.setMonitor via d h e)
  case insert i => exact keepsGrant_command s .unit 0x20 (.insert i)
  case amend sel i => exact keepsGrant_command s .unit 0x21 (.amend sel i)
  case retire r c => exact keepsGrant_command s .unit 0x22 (.retire r c)
  case lookup r c => exact keepsGrant_command s .unit 0x23 (.lookup r c)
  case next r c => exact keepsGrant_command s .unit 0x24 (.next r c)
  case sweep p => exact keepsGrant_command s .unit 0x25 (.sweep p)
  case suspects => exact keepsGrant_command s .unit 0x28 .suspects
  case clearSuspects => exact keepsGrant_command s .unit 0x29 .clearSuspects
  case save via => exact keepsGrant_command s via 0x30 (.save via)
  case load => exact keepsGrant_command s .unit 0x31 .load
  case readStatus b =>
    refine keepsGrant_next ?_
    split
    · split
      · exact keepsGrant_poll _ _
      · split
        · exact (keepsGrant_setFlash _ _).trans (keepsGrant_saveNext _ _)
        · exact .of_frame (unchangedBut_beginRead _ _ _)
        · exact keepsGrant_setFlash _ _
    · exact .refl _
  case writeEnable =>
    refine keepsGrant_next ?_
    split
    · exact (keepsGrant_setFlash _ _).trans (.of_keeps (State.flashSend_keeps _ _) rfl)
    · exact .refl _
  case sectorErase | pageProgram =>
    refine keepsGrant_next ?_
    split
    · exact (keepsGrant_setWork _ _).trans (keepsGrant_poll _ _)
    · exact .refl _
  case readData b =>
    refine keepsGrant_next ?_
    repeat' split
    · exact keepsGrant_headerRead _ _ b
    · exact keepsGrant_slotRead _ _ b
    all_goals exact .refl _
  case flashTimeout =>
    refine keepsGrant_next ?_
    split
    · exact (keepsGrant_setWork _ _).trans (keepsGrant_storeAsks _ _)
    · exact keepsGrant_storeAsks _ _
    · exact .refl _
  all_goals exact absurd (by simp [tableRows]) notRow

/-- R20: what the client does with the outcome of its operation comes after the next grant. -/
theorem KeepsGrant.carriesLaws_completed {s t : State} {c : Client} {x : Table}
    (h : KeepsGrant (s.complete c x) t) : CarriesLaws s t :=
  (carriesLaws_complete s c x).trans h.toCarriesLaws

/-- R20: the rows that complete a table operation carry the laws over. -/
theorem exec_tableRow (c : Instr) (s : State) (row : c ∈ tableRows) :
    ∃ t, exec c s = .next t ∧ CarriesLaws s t := by
  cases c
  case findByKey =>
    refine carriesLaws_next ?_
    split
    · exact (keepsGrant_emitterFound _ _).carriesLaws_completed
    · exact (keepsGrant_answerEdit _ _ _).carriesLaws_completed
    · exact (keepsGrant_suspectChecked _ _).carriesLaws_completed
    · exact .refl _
  case findFirstAtOrAfter =>
    refine carriesLaws_next ?_
    split
    · exact (keepsGrant_answerEdit _ _ _).carriesLaws_completed
    · exact .refl _
  case tableInsert | tableAmend | remove =>
    refine carriesLaws_next ?_
    split
    · exact (keepsGrant_answerGuarded _ _ _ _ _).carriesLaws_completed
    · exact .refl _
  case promotionInsert =>
    refine carriesLaws_next ?_
    split
    · exact (keepsGrant_promotionAnswered _ _ _ _).carriesLaws_completed
    · exact .refl _
  case faultUpdate =>
    refine carriesLaws_next ?_
    split
    · exact (keepsGrant_faultUpdated _ _ _ _ _ _).carriesLaws_completed
    · exact .refl _
  case stampProbeFrame =>
    refine carriesLaws_next ?_
    split
    · exact (keepsGrant_emitterStamped _).carriesLaws_completed
    · exact .refl _
  case sweepStep =>
    refine carriesLaws_next ?_
    split
    · exact (keepsGrant_sweepStepped _ _ _ _).carriesLaws_completed
    · exact .refl _
  case healStep =>
    refine carriesLaws_next ?_
    split
    · exact (keepsGrant_healStepped _ _).carriesLaws_completed
    · exact .refl _
  case statusRead =>
    refine carriesLaws_next ?_
    split
    · exact (keepsGrant_statusAnswered _).carriesLaws_completed
    · exact .refl _
  case geometryChange =>
    refine carriesLaws_next ?_
    split
    · exact (keepsGrant_geometryAnswered _ _ _ _).carriesLaws_completed
    · exact .refl _
  case protectionTest =>
    refine carriesLaws_next ?_
    split
    · exact (keepsGrant_protectionAnswered _ _ _).carriesLaws_completed
    · exact .refl _
  case beginSave =>
    have asked := (keepsGrant_askBegin s.quiet .save).toCarriesLaws
    refine carriesLaws_next ?_
    split
    · exact asked.trans
        ((keepsGrant_setWork _ _).trans (keepsGrant_poll _ _)).carriesLaws_completed
    · exact asked
  case saveRead =>
    refine carriesLaws_next ?_
    split
    · exact ((keepsGrant_setWork _ _).trans (keepsGrant_saveNext _ _)).carriesLaws_completed
    · exact .refl _
  case endSave =>
    refine carriesLaws_next ?_
    split
    · exact (keepsGrant_afterEndSave _).carriesLaws_completed
    · exact .refl _
  case beginLoad =>
    have asked := (keepsGrant_askBegin s.quiet .load).toCarriesLaws
    refine carriesLaws_next ?_
    split
    · exact asked.trans (keepsGrant_askOfMonitor _ _).carriesLaws_completed
    · exact asked
  case loadGeometry =>
    refine carriesLaws_next ?_
    split
    · exact (keepsGrant_loadNext _ _ _).carriesLaws_completed
    · exact .refl _
  case loadInsert =>
    refine carriesLaws_next ?_
    split
    · dsimp only
      split
      · exact ((keepsGrant_setWork _ _).trans (keepsGrant_loadNext _ _ _)).carriesLaws_completed
      · exact (keepsGrant_storeAsks _ _).carriesLaws_completed
    · exact .refl _
  case endLoad =>
    refine carriesLaws_next ?_
    split
    · exact (keepsGrant_loadEnds _ _ _ _ _ _).carriesLaws_completed
    · exact (keepsGrant_loadEnds _ _ _ _ _ _).carriesLaws_completed
    · exact .refl _
  all_goals exact absurd row (by simp [tableRows])

/-- R20, R155: a hard reset leaves the level OPERATOR, no violation and no request. -/
theorem exec_hardReset_carriesLaws (a : Bool) (s : State) :
    ∃ t, exec (.hardReset a) s = .next t ∧ CarriesLaws s t :=
  ⟨_, rfl, fun _ => ⟨nofun, fun _ => rfl, Nat.zero_le _⟩, fun _ c => by cases c <;> rfl⟩

theorem exec_restart_carriesLaws (via : Via) (s : State) :
    ∃ t, exec (.restart via) s = .next t ∧ CarriesLaws s t := by
  refine carriesLaws_next ?_
  unfold State.takeCommand
  split
  · exact (keepsGrant_discardWrite _ via).toCarriesLaws
  · exact ((keepsGrant_acceptWrite _ via).trans (keepsGrant_bus _ _)).toCarriesLaws.trans
      (carriesLaws_startRestart via _)

theorem exec_requestWrite_carriesLaws (a : BitVec 7) (x : List Byte) (s : State) :
    ∃ t, exec (.requestWrite a x) s = .next t ∧ CarriesLaws s t := by
  refine carriesLaws_next ?_
  split
  · exact (keepsGrant_bus _ _).toCarriesLaws
  · exact carriesLaws_writeEnds _ _ x

/-- R20, R147, R152: every command carries the laws over. -/
theorem exec_carriesLaws (c : Instr) (s : State) : ∃ t, exec c s = .next t ∧ CarriesLaws s t := by
  by_cases row : c ∈ tableRows
  · exact exec_tableRow c s row
  by_cases reset : ∃ a, c = .hardReset a
  · obtain ⟨a, rfl⟩ := reset
    exact exec_hardReset_carriesLaws a s
  by_cases restart : ∃ via, c = .restart via
  · obtain ⟨via, rfl⟩ := restart
    exact exec_restart_carriesLaws via s
  by_cases write : ∃ a x, c = .requestWrite a x
  · obtain ⟨a, x, rfl⟩ := write
    exact exec_requestWrite_carriesLaws a x s
  obtain ⟨t, run, keeps⟩ := exec_keepsGrant c s (fun a h => reset ⟨a, h⟩)
    (fun via h => restart ⟨via, h⟩) (fun a x h => write ⟨a, x, h⟩) row
  exact ⟨t, run, keeps.toCarriesLaws⟩

/-- R147, R152: every command keeps the laws of access control. -/
theorem accessLawful_of_exec (c : Instr) (s t : State) (lawful : s.accessLawful)
    (h : exec c s = .next t) : t.accessLawful := by
  obtain ⟨u, run, carried⟩ := exec_carriesLaws c s
  obtain rfl := Host.Outcome.next.inj (run.symm.trans h)
  exact carried.access lawful

/-- R20: every command keeps the law of the arbiter. -/
theorem arbiterLawful_of_exec (c : Instr) (s t : State) (lawful : s.arbiter.lawful)
    (h : exec c s = .next t) : t.arbiter.lawful := by
  obtain ⟨u, run, carried⟩ := exec_carriesLaws c s
  obtain rfl := Host.Outcome.next.inj (run.symm.trans h)
  exact carried.arbiter lawful

/-! ## The order of grants (R20) -/

/-- R20: the walker comes before the image store, this before the fault monitor, and the command engine last. -/
theorem Arbiter.nextClient_eq (a : Arbiter) :
    a.nextClient =
      if a.walker ≠ none then some .walker
      else if a.store ≠ none then some .store
      else if a.monitor ≠ none then some .monitor
      else if a.engine ≠ none then some .engine
      else none := by
  simp only [Arbiter.nextClient, Arbiter.asks, Option.isSome_iff_ne_none]

/-- Settles O58: the order of grants is that of the next client; what no row but a completion or a reset does, and what every command keeps, come from the walk over the commands. -/
theorem accessAndArbiterStayLawful : Obligations.AccessAndArbiterStayLawful := by
  refine ⟨fun a level => ⟨fun busy => a.granted_keeps level busy, fun free => ?_,
      rfl, rfl, rfl, rfl, rfl, rfl, rfl, rfl⟩,
    fun s => ⟨fun _ => rfl, fun _ => rfl, fun _ => rfl, fun _ => rfl, fun _ _ => rfl⟩,
    fun c s t run busy notReset notRestart notWrite notRow => ?_,
    fun s t run => ⟨fun lawful =>
        step_keeps_of_exec (fun _ _ => id) accessLawful_of_exec lawful run,
      fun lawful => step_keeps_of_exec (P := fun s => s.arbiter.lawful) (fun _ _ => id)
        arbiterLawful_of_exec lawful run⟩⟩
  · have next := a.nextClient_eq
    refine ⟨fun walker => ?_, fun noWalker store => ?_, fun noWalker noStore monitor => ?_,
      fun noWalker noStore noMonitor engine => ?_, fun noWalker noStore noMonitor noEngine => ?_⟩
    · exact Arbiter.granted_of_next level free (by simp [next, walker])
    · exact Arbiter.granted_of_next level free (by simp [next, noWalker, store])
    · exact Arbiter.granted_of_next level free (by simp [next, noWalker, noStore, monitor])
    · exact Arbiter.granted_of_next level free
        (by simp [next, noWalker, noStore, noMonitor, engine])
    · exact Arbiter.granted_of_nobody level free
        (by simp [next, noWalker, noStore, noMonitor, noEngine])
  · obtain ⟨u, run', keeps⟩ := exec_keepsGrant c s notReset notRestart notWrite notRow
    obtain rfl := Host.Outcome.next.inj (run'.symm.trans run)
    exact keeps.granted busy

end Sys2Proof.Machine
end

section
/-! PROOFS. Access control: SVC_EN (R148), the service access commands (R149, R150, R154) and the protection test of LOAD (R146, R163). -/
namespace Sys2Proof.Machine

/-! ## SVC_EN (R148) -/

section
variable {s : State} {asserted : Bool}

/-- R148: deasserted at SERVICE, SVC_EN lowers the level with SERVICE_CLOSED. -/
theorem svcEnChanges_of_lowered (lowered : asserted = false ∧ s.access.level = .service) :
    s.svcEnChanges asserted =
      ((s.withPins { s.pins with svcEn := asserted }).withAccess
        { s.access with level := .operator }).raise .serviceClosed := if_pos lowered

/-- R148: any other change of SVC_EN is only seen. -/
theorem svcEnChanges_of_kept (kept : ¬ (asserted = false ∧ s.access.level = .service)) :
    s.svcEnChanges asserted = s.withPins { s.pins with svcEn := asserted } := if_neg kept

end

theorem unchangedBut_withPins (s : State) (x : Pins) : UnchangedBut [.pins] s (s.withPins x) := by
  rw [unchangedBut_iff]
  simp

theorem unchangedBut_withAccess (s : State) (x : Access) :
    UnchangedBut [.access] s (s.withAccess x) := by
  rw [unchangedBut_iff]
  simp

/-- R148: the level that SVC_EN leaves where it does not lower it. -/
theorem level_of_kept {asserted : Bool} {level : AccessLevel}
    (kept : ¬ (asserted = false ∧ level = .service)) :
    (if asserted then level else .operator) = level := by
  cases asserted with
  | true => rfl
  | false =>
    cases level with
    | operator => rfl
    | service => exact absurd ⟨rfl, rfl⟩ kept

/-- Settles O4: SVC_EN lowers the level exactly when it is deasserted at SERVICE. -/
theorem svcEnChangeMovesTheLevel : Obligations.SvcEnChangeMovesTheLevel := by
  intro asserted s
  refine ⟨s.quiet.svcEnChanges asserted, rfl, ?_⟩
  have seen := unchangedBut_withPins s.quiet { s.pins with svcEn := asserted }
  by_cases lowered : asserted = false ∧ s.access.level = .service
  · rw [svcEnChanges_of_lowered (s := s.quiet) lowered, if_pos lowered]
    obtain ⟨low, -⟩ := lowered
    refine ⟨rfl, ?_, rfl, rfl, ((unchangedBut_quiet s).trans ((seen.trans
      (unchangedBut_withAccess _ _)).trans (unchangedBut_raise _ _))).mono (by decide)⟩
    rw [low]
    rfl
  · rw [svcEnChanges_of_kept (s := s.quiet) lowered, if_neg lowered, level_of_kept lowered]
    exact ⟨rfl, rfl, rfl, rfl, ((unchangedBut_quiet s).trans seen).mono (by decide)⟩

/-! ## The service access commands (R149, R150, R154) -/

/-- R176: a command whose write is taken is carried out. -/
theorem exec_of_taken {s : State} {c : Instr} {via : Via} {code : Byte} {body : State → State}
    (hs : s.refusesWrite via = false)
    (hc : exec c s = .next (s.quiet.takeCommand via code body)) :
    exec c s = .next (body (s.taken via code)) := by
  rw [hc, takeCommand_of_taken s via code body hs]
  rfl

/-- R177, R180: the answer of a command that has left the engine to the port. -/
theorem answered_respond {s u : State} {via : Via} {code : Byte}
    (engine : u.engine = (s.taken via code).engine) (result : ResultCode) (data : List Byte) :
    Answered s via result data (u.respond via result data) := by
  unfold Answered
  rw [State.respond_engine, engine, taken_engine]
  cases via <;> rfl

section
variable (s : State) (via : Via) (code : Byte) (x : Access) (result : ResultCode)
  (data : List Byte)

/-- A command that writes the access block and answers. -/
theorem answered_withAccess :
    Answered s via result data (((s.taken via code).withAccess x).respond via result data) :=
  answered_respond (u := (s.taken via code).withAccess x) (code := code) rfl result data

theorem unchangedBut_withAccess_respond :
    UnchangedBut [.engine, .access, .events] s
      (((s.taken via code).withAccess x).respond via result data) :=
  (((unchangedBut_taken s via code).trans (unchangedBut_withAccess _ _)).trans
    (unchangedBut_respond _ _ _ _)).mono (by decide)

end

/-- R149: OPEN_SERVICE with SVC_EN asserted. -/
theorem startOpenService_of_asserted {s : State} (asserted : s.pins.svcEn = true) :
    s.startOpenService =
      (s.withAccess { s.access with level := .service }).respond .unit .ok [1] := if_pos asserted

/-- R149, R153: OPEN_SERVICE with SVC_EN deasserted. -/
theorem startOpenService_of_deasserted {s : State} (deasserted : s.pins.svcEn = false) :
    s.startOpenService =
      (s.reportViolation ⟨0x06, none, s.access.level, .notPermitted⟩).respond .unit
        .notPermitted [] := if_neg (Bool.eq_false_iff.mp deasserted)

/-- R154, R185: the answer without a violation record. -/
theorem violationAnswer_of_none {a : Access} (unrecorded : a.violation = none) :
    violationAnswer a = [0, 0, 0, 0, 0, 0, 0, byte a.furtherCount] := by
  unfold violationAnswer
  rw [unrecorded]
  rfl

/-- R154, R185: the answer with one. -/
theorem violationAnswer_of_some {a : Access} {v : Violation} (recorded : a.violation = some v) :
    violationAnswer a = [1, v.code] ++ keyBytes v.key ++
      [v.level.code, v.refusal.code, byte a.furtherCount] := by
  unfold violationAnswer
  rw [recorded]
  exact List.append_assoc _ _ _

/-- R149: OPEN_SERVICE taken, by the level of SVC_EN. -/
theorem openService_isTaken {s : State} (hs : s.refusesWrite .unit = false) :
    ∃ t, exec .openService s = .next t ∧ UnchangedBut [.engine, .access, .events] s t ∧
      (s.pins.svcEn = true → Answered s .unit .ok [1] t ∧
        t.access = { s.access with level := .service } ∧
        t.events = (s.acceptWrite .unit).events) ∧
      (s.pins.svcEn = false → Answered s .unit .notPermitted [] t ∧
        ViolationRecorded s.access (s.acceptWrite .unit).events
          ⟨0x06, none, s.access.level, .notPermitted⟩ t) := by
  obtain ⟨kept, -⟩ := unchangedBut_taken s .unit 0x06
  have access : (s.taken .unit 0x06).access = s.access := kept .access (by decide)
  have pins : (s.taken .unit 0x06).pins = s.pins := kept .pins (by decide)
  refine ⟨_, exec_of_taken hs rfl, ?_⟩
  cases svcEn : s.pins.svcEn with
  | true =>
    rw [startOpenService_of_asserted (by rw [pins, svcEn]), access]
    exact ⟨unchangedBut_withAccess_respond .., fun _ => ⟨answered_withAccess .., rfl, rfl⟩,
      nofun⟩
  | false =>
    rw [startOpenService_of_deasserted (by rw [pins, svcEn]), access]
    have recorded := violationRecorded_reportViolation (s.taken .unit 0x06)
      ⟨0x06, none, s.access.level, .notPermitted⟩
    rw [access] at recorded
    exact ⟨(((unchangedBut_taken s .unit 0x06).trans (unchangedBut_reportViolation _ _)).trans
      (unchangedBut_respond _ _ _ _)).mono (by decide), nofun,
      fun _ => ⟨answered_respond (State.reportViolation_engine _ _) _ _, recorded⟩⟩

/-- R150: CLOSE_SERVICE taken. -/
theorem closeService_isTaken {via : Via} {s : State} (hs : s.refusesWrite via = false) :
    ∃ t, exec (.closeService via) s = .next t ∧ Answered s via .ok [0] t ∧
      t.access = { s.access with level := .operator } ∧ t.events = (s.acceptWrite via).events ∧
      UnchangedBut [.engine, .access, .events] s t := by
  have access : (s.taken via 0x07).access = s.access :=
    (unchangedBut_taken s via 0x07).1 .access (by decide)
  refine ⟨_, exec_of_taken hs rfl, answered_withAccess s via 0x07 _ _ _, ?_, rfl,
    unchangedBut_withAccess_respond s via 0x07 _ _ _⟩
  show { (s.taken via 0x07).access with level := .operator } = _
  rw [access]

/-- R154: READ_VIOLATION taken, its answer read before the record is cleared. -/
theorem exec_readViolation {s : State} (hs : s.refusesWrite .unit = false) :
    exec .readViolation s = .next (((s.taken .unit 0x05).withAccess
      ⟨s.access.level, none, 0⟩).respond .unit .ok (violationAnswer s.access)) := by
  rw [exec_of_taken (code := 0x05) hs rfl]
  unfold State.startReadViolation
  rw [show (s.taken .unit 0x05).access = s.access from
    (unchangedBut_taken s .unit 0x05).1 .access (by decide)]

/-- Settles O32: each command is carried out once its write is taken. -/
theorem serviceIsOpenedAndClosed : Obligations.ServiceIsOpenedAndClosed := by
  refine ⟨⟨fun s hs => openService_isTaken hs, fun via s hs => closeService_isTaken hs⟩,
    fun s hs => ⟨_, exec_readViolation hs, rfl, rfl, unchangedBut_withAccess_respond ..,
      fun unrecorded => ?_, fun v recorded => ?_⟩⟩
  · rw [violationAnswer_of_none unrecorded]
    exact answered_withAccess ..
  · rw [violationAnswer_of_some recorded]
    exact answered_withAccess ..

/-! ## The protection test of LOAD (R146, R163) -/

/-- R146: the test passes at SERVICE, and without a FACTORY record. -/
theorem Table.protectionPasses_iff (t : Table) (level : AccessLevel) :
    t.protectionPasses level = true ↔
      level = .service ∨ ∀ r ∈ t.records, r.pers.origin ≠ .factory := by
  simp [Table.protectionPasses]

/-- The completion of a protection test, with its outcome still to be acted on. -/
theorem exec_protectionTest {s : State} (hop : s.arbiter.engineOp = some .protectionTest) :
    exec .protectionTest s =
      .next ((s.quiet.complete .engine s.table).protectionAnswered s.arbiter.levelAtGrant
        (s.table.protectionPasses s.arbiter.levelAtGrant)) := by
  show execProtectionTest s = _
  unfold execProtectionTest
  rw [hop]

section
variable (s : State) (level : AccessLevel)

/-- R163: the test passed, and the load is accepted. -/
theorem protectionAnswered_of_passed :
    s.protectionAnswered level true =
      (s.startStore (.loading .begun) .load).respondHand .started [] := rfl

/-- R146, R153: the test failed, and the violation is recorded. -/
theorem protectionAnswered_of_failed :
    s.protectionAnswered level false =
      (s.reportViolation ⟨0x31, none, level, .protected_⟩).respondHand .protected_ [] := rfl

theorem respondHand_store (code : ResultCode) (data : List Byte) :
    (s.respondHand code data).store = s.store :=
  (unchangedBut_respondHand s code data).1 .store (by decide)

end

/-- Settles O43: the protection test decides between STARTED and PROTECTED. -/
theorem protectionTestGuardsLoad : Obligations.ProtectionTestGuardsLoad := by
  intro s job hop hand unit
  have complete := unchangedBut_complete_same s .engine
  have answered := fun u (engine : State.engine u = s.engine) code data =>
    handAnswered_respondHand engine hand unit code data
  refine ⟨_, exec_protectionTest hop, ?_⟩
  rw [← s.table.protectionPasses_iff]
  cases s.table.protectionPasses s.arbiter.levelAtGrant with
  | true =>
    rw [protectionAnswered_of_passed, respondHand_store]
    exact ⟨fun _ => ⟨answered ((s.quiet.complete .engine s.table).startStore _ _) rfl _ _,
      rfl, rfl, rfl, rfl, ⟨_, _, rfl⟩, respondHand_arbiter ..,
      ((complete.trans (unchangedBut_startStore _ _ _)).trans
        (unchangedBut_respondHand _ _ _)).mono (by decide)⟩, fun failed => absurd rfl failed⟩
  | false =>
    rw [protectionAnswered_of_failed]
    exact ⟨nofun, fun _ => ⟨answered ((s.quiet.complete .engine s.table).reportViolation _)
        (State.reportViolation_engine _ _) _ _,
      (respondHand_arbiter ..).trans (State.reportViolation_arbiter _ _),
      (violationRecorded_reportViolation (s.quiet.complete .engine s.table) _).congr
        (respondHand_access ..) (respondHand_events ..),
      ((complete.trans (unchangedBut_reportViolation _ _)).trans
        (unchangedBut_respondHand _ _ _)).mono (by decide)⟩⟩

end Sys2Proof.Machine
end

section
/-! PROOFS. The transactions of the store link (R157): what the end of each leads a save (R160, R161) or a load (R164) to, and the timeout (R162, R166). -/
namespace Sys2Proof.Machine

/-! ## Saving, once the sectors are erased (R161) -/

/-- R161 step 2: an empty page is not due. -/
theorem SaveWork.pageDue_of_empty {w : SaveWork} (empty : w.page = []) : w.pageDue = false := by
  simp [SaveWork.pageDue, empty, Config.slotsPerPage, Config.slotBytes]

/-- R160, R161: what a save does next moves its flash operation, not its sequencing. -/
theorem saveNext_work (s : State) (w : SaveWork) : (s.saveNext w).store.work = s.store.work := by
  unfold State.saveNext
  repeat' split
  all_goals rfl

section
variable {s : State} {w : SaveWork} (erased : 3 ≤ w.erased)

/-- R160 step 4: the next sector is erased while fewer than three are. -/
theorem saveNext_of_unerased (unerased : w.erased < 3) :
    s.saveNext w = s.beginArray (.erase (4096 * w.erased)) := if_pos unerased

include erased

/-- R161 step 4: after the header the hold is given up. -/
theorem saveNext_of_headerProgrammed (header : w.headerProgrammed = true) :
    s.saveNext w = s.storeAsks .endSave :=
  (if_neg (Nat.not_lt.mpr erased)).trans (if_pos header)

section
variable (header : w.headerProgrammed = false) (empty : w.page = [])
include header empty

/-- R161 step 1: with an empty page and records left the next is read. -/
theorem saveNext_of_emptyPage_left (left : w.recordsEnded = false) :
    s.saveNext w = s.storeAsks (.saveRead w.position) := by
  unfold State.saveNext
  rw [if_neg (Nat.not_lt.mpr erased : ¬ w.erased < Config.sectorsErased),
    if_neg (by simp [header]), if_neg (by simp [SaveWork.pageDue_of_empty empty]),
    if_neg (by simp [left])]

/-- R161 step 3: with an empty page and no record left the header is programmed. -/
theorem saveNext_of_emptyPage_ended {h : Header} (hw : w.header = some h)
    (ended : w.recordsEnded = true) :
    s.saveNext w = s.beginArray (.program 0 (headerBytes h w.crc)) := by
  unfold State.saveNext
  rw [if_neg (Nat.not_lt.mpr erased : ¬ w.erased < Config.sectorsErased),
    if_neg (by simp [header]), if_neg (by simp [SaveWork.pageDue_of_empty empty]),
    if_pos ended, hw]

end

end

/-! ## Read status (R157) -/

section
variable {b : Byte} {s : State}

/-- R157: a flash that is busy is polled again. -/
theorem exec_readStatus_of_busy {n : Nat} (polling : s.store.flash = .polling n)
    (busy : b.getLsbD 0 = true) : exec (.readStatus b) s = .next (s.quiet.poll n) := by
  show execReadStatus b s = _
  unfold execReadStatus
  rw [polling]
  exact congrArg _ (if_pos busy)

section
variable {n : Nat} (polling : s.store.flash = .polling n) (idle : b.getLsbD 0 = false)
include polling idle

/-- R157: an idle flash leads to what the store does next. -/
theorem exec_readStatus_of_idle :
    exec (.readStatus b) s = .next
      (match s.store.work with
        | .saving w => (s.quiet.setFlash .none).saveNext w
        | .loading _ => s.quiet.beginRead 0 Config.headerBytes
        | .idle => s.quiet.setFlash .none) := by
  show execReadStatus b s = _
  unfold execReadStatus
  rw [polling]
  exact congrArg _ (if_neg (Bool.eq_false_iff.mp idle))

/-- R164 step 4: a load reads its header. -/
theorem exec_readStatus_of_loading {w : LoadWork} (work : s.store.work = .loading w) :
    exec (.readStatus b) s = .next (s.quiet.beginRead 0 32) := by
  rw [exec_readStatus_of_idle polling idle, work]
  rfl

/-- R160, R161: a save goes on. -/
theorem exec_readStatus_of_saving {w : SaveWork} (work : s.store.work = .saving w) :
    exec (.readStatus b) s = .next ((s.quiet.setFlash .none).saveNext w) := by
  rw [exec_readStatus_of_idle polling idle, work]

end

/-- Log entry 25: a status byte that no poll waits for. -/
theorem exec_readStatus_of_not_polling (other : ∀ n, s.store.flash ≠ .polling n) :
    exec (.readStatus b) s = .next s.quiet := by
  show execReadStatus b s = _
  unfold execReadStatus
  split
  · exact absurd ‹_› (other _)
  · rfl

end

theorem unchangedBut_setFlash (s : State) (op : FlashOp) :
    UnchangedBut [.store] s (s.setFlash op) := unchangedBut_withStore s _

/-- R157: whatever the status byte leads to, it is the store's and the arbiter's. -/
theorem readStatus_frame (b : Byte) (s : State) :
    ∃ t, exec (.readStatus b) s = .next t ∧ UnchangedBut [.store, .arbiter] s t := by
  have quiet := unchangedBut_quiet s
  by_cases polls : ∃ n, s.store.flash = .polling n
  · obtain ⟨n, polling⟩ := polls
    cases status : b.getLsbD 0 with
    | true =>
      exact ⟨_, exec_readStatus_of_busy polling status,
        (quiet.trans (unchangedBut_poll _ n)).mono (by decide)⟩
    | false =>
      refine ⟨_, exec_readStatus_of_idle polling status, ?_⟩
      split
      · exact ((quiet.trans (unchangedBut_setFlash _ _)).trans
          (unchangedBut_saveNext _ _)).mono (by decide)
      · exact (quiet.trans (unchangedBut_beginRead _ _ _)).mono (by decide)
      · exact (quiet.trans (unchangedBut_setFlash _ _)).mono (by decide)
  · exact ⟨_, exec_readStatus_of_not_polling fun n h => polls ⟨n, h⟩, quiet.mono (by decide)⟩

/-! ## The rows that end a write enable, an erase or a program (R157) -/

/-- R157: write enable is followed by the command it precedes. -/
theorem exec_writeEnable {s : State} {c : ArrayCommand} (enabling : s.store.flash = .enabling c) :
    exec .writeEnable s = .next ((s.quiet.setFlash (.running c)).flashSend c.send) := by
  show execWriteEnable s = _
  unfold execWriteEnable
  rw [enabling]

/-- Log entry 25: a write enable that the store did not send. -/
theorem exec_writeEnable_of_not_enabling {s : State} (other : ∀ c, s.store.flash ≠ .enabling c) :
    exec .writeEnable s = .next s.quiet := by
  show execWriteEnable s = _
  unfold execWriteEnable
  split
  · exact absurd ‹_› (other _)
  · rfl

section
variable {s : State} {w : SaveWork} (work : s.store.work = .saving w)
include work

/-- R160 step 4: an erase is counted, and the flash polled. -/
theorem exec_sectorErase {a : Nat} (running : s.store.flash = .running (.erase a)) :
    exec .sectorErase s =
      .next ((s.quiet.setWork (.saving (w.afterArray (.erase a)))).poll 400) := by
  show execSectorErase s = _
  unfold execSectorErase
  rw [running, work]
  rfl

/-- R161: a program is counted, and the flash polled. -/
theorem exec_pageProgram {a : Nat} {x : List Byte}
    (running : s.store.flash = .running (.program a x)) :
    exec .pageProgram s =
      .next ((s.quiet.setWork (.saving (w.afterArray (.program a x)))).poll 5) := by
  show execPageProgram s = _
  unfold execPageProgram
  rw [running, work]
  rfl

/-- R162: a timeout of a save. -/
theorem exec_flashTimeout_of_saving {n : Nat} (polling : s.store.flash = .polling n) :
    exec .flashTimeout s =
      .next ((s.quiet.setWork (.saving { w with faulted := true })).storeAsks .endSave) := by
  show execFlashTimeout s = _
  unfold execFlashTimeout
  rw [polling, work]

end

/-- R166: a timeout of a load. -/
theorem exec_flashTimeout_of_loading {s : State} {w : LoadWork} {n : Nat}
    (work : s.store.work = .loading w) (polling : s.store.flash = .polling n) :
    exec .flashTimeout s = .next s.quiet.failLoad := by
  show execFlashTimeout s = _
  unfold execFlashTimeout
  rw [polling, work]

/-- R161: a program at offset 0 is the header's, and any other a record page's. -/
theorem SaveWork.afterArray_program (w : SaveWork) (a : Nat) (x : List Byte) :
    w.afterArray (.program a x) =
      if a = 0 then { w with headerProgrammed := true }
      else { w with page := [], pagesProgrammed := w.pagesProgrammed + 1 } := by
  cases a <;> rfl

/-- R157: after an erase or a program the store polls. -/
theorem unchangedBut_counted (s : State) (w : StoreWork) (n : Nat) :
    UnchangedBut [.store] s ((s.quiet.setWork w).poll n) :=
  (((unchangedBut_quiet s).trans (unchangedBut_setWork _ w)).trans
    (unchangedBut_poll _ n)).mono (by decide)

/-- R20: a transaction or a timeout that leads to a table operation. -/
theorem unchangedBut_asked (s : State) (w : StoreWork) (r : StoreReq) :
    UnchangedBut [.store, .arbiter] s ((s.quiet.setWork w).storeAsks r) :=
  (((unchangedBut_quiet s).trans (unchangedBut_setWork _ w)).trans
    (unchangedBut_storeAsks _ r)).mono (by decide)

/-! ## Out of turn (log entry 25) -/

section
variable {s : State}

theorem sectorErase_outOfTurn
    (other : ¬ (∃ a w, s.store.flash = .running (.erase a) ∧ s.store.work = .saving w)) :
    NothingHappens .sectorErase s := by
  show execSectorErase s = _
  unfold execSectorErase
  split
  · exact absurd ⟨_, _, ‹_›, ‹_›⟩ other
  · rfl

theorem pageProgram_outOfTurn
    (other : ¬ (∃ a x w, s.store.flash = .running (.program a x) ∧ s.store.work = .saving w)) :
    NothingHappens .pageProgram s := by
  show execPageProgram s = _
  unfold execPageProgram
  split
  · exact absurd ⟨_, _, _, ‹_›, ‹_›⟩ other
  · rfl

/-- Log entry 26: a transfer of another length is out of turn too. -/
theorem readData_outOfTurn {bytes : List Byte}
    (other : ¬ (∃ a w, s.store.flash = .reading a bytes.length ∧ s.store.work = .loading w)) :
    NothingHappens (.readData bytes) s := by
  show execReadData bytes s = _
  unfold execReadData
  split
  · rename_i a length w reading work
    exact congrArg _ (if_neg fun same : bytes.length = length =>
      other ⟨a, w, same ▸ reading, work⟩)
  · rfl

theorem flashTimeout_outOfTurn
    (other : (∀ n, s.store.flash ≠ .polling n) ∨ s.store.work = .idle) :
    NothingHappens .flashTimeout s := by
  show execFlashTimeout s = _
  unfold execFlashTimeout
  split
  · rename_i polling work
    exact absurd other (not_or.mpr ⟨fun h => h _ polling, by simp [work]⟩)
  · rename_i polling work
    exact absurd other (not_or.mpr ⟨fun h => h _ polling, by simp [work]⟩)
  · rfl

end

/-- Settles O51: row by row, each by the flash operation in hand and by whether a save or a load is under way. -/
theorem flashTransactionsLeadOn : Obligations.FlashTransactionsLeadOn := by
  refine ⟨fun _ => rfl, fun b s => ?_, fun s => ?_, fun s w work => ⟨fun a running => ?_,
    fun a x running => ?_, fun n polling => ?_⟩, fun s w n work polling => ?_, fun s =>
    ⟨sectorErase_outOfTurn, pageProgram_outOfTurn, fun _ => readData_outOfTurn,
      flashTimeout_outOfTurn⟩⟩
  · obtain ⟨t, run, frame⟩ := readStatus_frame b s
    have leads := fun {u} (h : exec (.readStatus b) s = .next u) =>
      (Host.Outcome.next.inj (run.symm.trans h) : t = u)
    refine ⟨t, run, frame, fun n polling => ⟨fun busy => ?_, fun w idle work => ?_,
      fun w idle work => ?_⟩, fun other => ?_⟩
    · obtain rfl := leads (exec_readStatus_of_busy polling busy)
      refine ⟨?_, rfl, rfl⟩
      show { s.store with flash := .polling n } = s.store
      rw [← polling]
    · obtain rfl := leads (exec_readStatus_of_loading polling idle work)
      exact ⟨rfl, rfl, rfl⟩
    · obtain rfl := leads (exec_readStatus_of_saving polling idle work)
      refine ⟨saveNext_work _ w, fun unerased => ?_, fun erased header => ?_,
        fun erased header left empty => ?_, fun h erased header ended empty hw => ?_⟩
      · rw [saveNext_of_unerased unerased]
        exact ⟨rfl, rfl, rfl⟩
      · rw [saveNext_of_headerProgrammed erased header]
        exact ⟨rfl, rfl, storeAsks_asked _ _⟩
      · rw [saveNext_of_emptyPage_left erased header empty left]
        exact ⟨rfl, rfl, storeAsks_asked _ _⟩
      · rw [saveNext_of_emptyPage_ended erased header empty hw ended]
        exact ⟨rfl, rfl, rfl⟩
    · obtain rfl := leads (exec_readStatus_of_not_polling other)
      exact ⟨rfl, rfl, rfl⟩
  · by_cases enables : ∃ c, s.store.flash = .enabling c
    · obtain ⟨c, enabling⟩ := enables
      refine ⟨_, exec_writeEnable enabling, ?_, fun a erase => ?_, fun a x program => ?_,
        fun other => absurd enabling (other c)⟩
      · rw [unchangedBut_iff]
        simp [State.setFlash, State.flashSend]
      · obtain rfl := FlashOp.enabling.inj (enabling.symm.trans erase)
        exact ⟨rfl, rfl⟩
      · obtain rfl := FlashOp.enabling.inj (enabling.symm.trans program)
        exact ⟨rfl, rfl⟩
    · have other := not_exists.mp enables
      exact ⟨_, exec_writeEnable_of_not_enabling other,
        (unchangedBut_quiet s).mono (by decide), fun _ h => absurd h (other _),
        fun _ _ h => absurd h (other _), fun _ => ⟨rfl, rfl⟩⟩
  · exact ⟨_, exec_sectorErase work running, rfl, rfl, unchangedBut_counted s _ _⟩
  · rw [← SaveWork.afterArray_program w a x]
    exact ⟨_, exec_pageProgram work running, rfl, rfl, unchangedBut_counted s _ _⟩
  · exact ⟨_, exec_flashTimeout_of_saving work polling, rfl, storeAsks_asked _ _, rfl,
      unchangedBut_asked s _ _⟩
  · exact ⟨_, exec_flashTimeout_of_loading work polling, rfl, storeAsks_asked _ _, rfl,
      unchangedBut_asked s s.store.work _⟩

end Sys2Proof.Machine
end

section
/-! PROOFS. The bytes of an image (R158, R185): what a record slot and a header spell, as they are read and as they are written. -/
namespace Sys2Proof.Machine

/-! ## Bytes of a field -/

theorem byte_toNat {n : Nat} (h : n < 256) : (byte n).toNat = n := Nat.mod_eq_of_lt h

/-- 00 "Byte order": a field grows by its next byte. -/
theorem toNat_append_byte {n : Nat} (x : BitVec n) (b : Byte) :
    (x ++ b).toNat = 256 * x.toNat + b.toNat := by
  rw [BitVec.toNat_append, ← Nat.shiftLeft_add_eq_or_of_lt b.isLt, Nat.shiftLeft_eq, Nat.mul_comm]

theorem word16_toNat (hi lo : Byte) : (word16 hi lo).toNat = 256 * hi.toNat + lo.toNat :=
  toNat_append_byte hi lo

/-- A two-byte field is read back. -/
theorem word16_byte_toNat {n : Nat} (h : n < 65536) :
    (word16 (byte (n / 256)) (byte n)).toNat = n := by
  have low : (byte n).toNat = n % 256 := rfl
  rw [word16_toNat, byte_toNat (by omega), low, Nat.div_add_mod]

theorem word16_byte (w : Word16) : word16 (byte (w.toNat / 256)) (byte w.toNat) = w :=
  BitVec.eq_of_toNat_eq (word16_byte_toNat w.isLt)

/-- A four-byte field is read back. -/
theorem word32_byte (w : Word32) :
    byte (w.toNat / 2 ^ 24) ++ byte (w.toNat / 2 ^ 16) ++ byte (w.toNat / 2 ^ 8) ++
      byte w.toNat = w := by
  have low (n : Nat) : (byte n).toNat = n % 256 := rfl
  have bound := w.isLt
  refine BitVec.eq_of_toNat_eq ?_
  rw [toNat_append_byte, toNat_append_byte, toNat_append_byte, low, low, low, low]
  omega

/-- R158: the format word, byte by byte. -/
theorem word16_eq_formatWord_iff {hi lo : Byte} :
    word16 hi lo = Config.formatWord ↔ hi = 0x5C ∧ lo = 0x01 := by
  have bound := lo.isLt
  rw [← BitVec.toNat_inj, ← BitVec.toNat_inj, ← BitVec.toNat_inj, word16_toNat]
  simp only [Config.formatWord, BitVec.toNat_ofNat, BitVec.ofNat_eq_ofNat]
  omega

/-! ## Codes (R185) -/

theorem originOf_eq_some_iff {b : Byte} {o : Origin} : originOf b = some o ↔ b = o.code := by
  constructor
  · intro h
    unfold originOf at h
    split at h
    · cases h; exact code_eq ‹_›
    · cases h; exact code_eq ‹_›
    · cases h; exact code_eq ‹_›
    · cases h
  · rintro rfl
    cases o <;> rfl

theorem statusOf_eq_some_iff {b : Byte} {st : Status} : statusOf b = some st ↔ b = st.code := by
  constructor
  · intro h
    unfold statusOf at h
    split at h
    · cases h; exact code_eq ‹_›
    · cases h; exact code_eq ‹_›
    · cases h
  · rintro rfl
    cases st <;> rfl

theorem modeOf_eq_some_iff {n : Nat} {m : Mode} : modeOf n = some m ↔ m.code = n := by
  constructor
  · intro h
    unfold modeOf at h
    split at h <;> cases h <;> rfl
  · rintro rfl
    cases m <;> rfl

/-- R7: the values that each mode admits. -/
theorem Mode.admits_iff (m : Mode) (value : Nat) :
    m.admits value = true ↔
      match m with
      | .pass | .mute => value = 0
      | .trim => value ≤ 2047
      | .hold => value ≤ 4095 := by
  cases m with
  | pass | mute => exact beq_iff_eq
  | trim | hold => exact decide_eq_true_iff

theorem Mode.code_lt (m : Mode) : m.code < 128 := by cases m <;> decide

/-- R7: no admitted value needs more than two bytes. -/
theorem Mode.lt_of_admits {m : Mode} {value : Nat} (h : m.admits value = true) : value < 65536 := by
  have range := (m.admits_iff value).mp h
  cases m <;> simp only at range <;> omega

/-! ## Actions and records (R13, R185) -/

/-- R185: an action is read from its mode byte, bit 7 the marker, and its value. -/
theorem actionOf_eq_some_iff {i : ActionImage} {a : Action} :
    actionOf i = some a ↔ a.value = i.value.toNat ∧
      i.mode.toNat = (if a.auto = true then 128 else 0) + a.mode.code ∧
      a.mode.admits a.value = true := by
  constructor
  · intro h
    have admits := admits_of_actionOf h
    unfold actionOf at h
    split at h
    · cases h
    · rename_i m mode
      have code := modeOf_eq_some_iff.mp mode
      split at h
      · obtain rfl := Option.some.inj h
        refine ⟨rfl, ?_, admits⟩
        simp only [decide_eq_true_eq]
        split <;> omega
      · cases h
  · obtain ⟨m, value, auto⟩ := a
    rintro ⟨rfl, mode, admits⟩
    have bound := m.code_lt
    have code : modeOf (i.mode.toNat % 128) = some m := by
      rw [modeOf_eq_some_iff, mode]
      split <;> dsimp only <;> omega
    have marker : decide (128 ≤ i.mode.toNat) = auto := by
      rw [mode]
      cases auto <;> simp [bound]
    unfold actionOf
    rw [code]
    dsimp only at admits ⊢
    rw [if_pos admits, marker]

/-- R185: an action in range is read back from its three bytes. -/
theorem actionOf_actionBytes {a : Action} (inRange : a.mode.admits a.value = true) :
    actionOf ⟨byte (a.mode.code + if a.auto then 128 else 0),
      word16 (byte (a.value / 256)) (byte a.value)⟩ = some a := by
  have bound := a.mode.code_lt
  refine actionOf_eq_some_iff.mpr
    ⟨(word16_byte_toNat (Mode.lt_of_admits inRange)).symm, ?_, inRange⟩
  rw [Nat.add_comm]
  exact byte_toNat (by split <;> omega)

/-- What holds of each colour's action holds of the three of them. -/
theorem Persistent.forall_action_iff (p : Persistent) (P : Action → Prop) :
    (∀ c, P (p.action c)) ↔ ∀ a ∈ [p.red, p.green, p.blue], P a := by
  simp only [List.forall_mem_cons, List.not_mem_nil, false_imp_iff, implies_true, and_true]
  exact ⟨fun h => ⟨h .red, h .green, h .blue⟩, fun ⟨red, green, blue⟩ c => by
    cases c <;> assumption⟩

/-- R7, R8: the laws of a record over its three actions. -/
theorem Persistent.valid_iff_actions (p : Persistent) :
    p.valid = true ↔
      (∀ a ∈ [p.red, p.green, p.blue], a.mode.admits a.value = true ∧
        (a.auto = true → a.mode = .mute ∧ p.origin = .detected)) ∧
      (p.origin = .detected → ∃ a ∈ [p.red, p.green, p.blue], a.auto = true) := by
  have marked : (∃ c, (p.action c).auto = true) ↔
      ∃ a ∈ [p.red, p.green, p.blue], a.auto = true := by
    have unmarked := p.forall_action_iff (fun a => ¬ a.auto = true)
    rw [← not_iff_not]
    push Not
    exact unmarked
  rw [p.valid_iff, marked, ← p.forall_action_iff, forall_and, and_assoc]

/-- R13: a record of an image is read from its fields, and meets R7 and R8. -/
theorem imageRecord_eq_some_iff {i : RecordImage} {p : Persistent} :
    imageRecord i = some p ↔ persistentOf originOf actionOf i = some p ∧ p.valid = true := by
  refine ⟨fun h => ⟨(Option.filter_eq_some_iff.mp h).1, valid_of_imageRecord h⟩,
    fun ⟨read, valid⟩ => Option.filter_eq_some_iff.mpr ⟨read, ?_⟩⟩
  exact (Bool.and_eq_true_iff.mp valid).2

/-- R165 checks 1 and 2: the record of a slot, byte by byte. -/
theorem slotRecord_eq_some_iff {row col o st rm rh rl gm gh gl bm bh bl th tl pad : Byte}
    {p : Persistent} :
    slotRecord [row, col, o, st, rm, rh, rl, gm, gh, gl, bm, bh, bl, th, tl, pad] = some p ↔
      pad = 0 ∧ p.key = keyOf row col ∧ o = p.origin.code ∧ st = p.status.code ∧
        actionOf ⟨rm, word16 rh rl⟩ = some p.red ∧ actionOf ⟨gm, word16 gh gl⟩ = some p.green ∧
        actionOf ⟨bm, word16 bh bl⟩ = some p.blue ∧ p.tag = word16 th tl ∧ p.valid = true := by
  have read : slotRecord [row, col, o, st, rm, rh, rl, gm, gh, gl, bm, bh, bl, th, tl, pad] =
      if pad = 0 then imageRecord ⟨row, col, o, st, ⟨rm, word16 rh rl⟩, ⟨gm, word16 gh gl⟩,
        ⟨bm, word16 bh bl⟩, word16 th tl⟩ else none := rfl
  rw [read, Option.ite_none_right_eq_some, imageRecord_eq_some_iff, persistentOf_eq_some_iff,
    originOf_eq_some_iff, statusOf_eq_some_iff]
  simp only [and_assoc]

/-- R158: every valid record whose key fits its two bytes is read back from its slot. -/
theorem slotRecord_slotBytes {p : Persistent} (valid : p.valid = true) (row : p.key.row < 256)
    (col : p.key.col < 256) : slotRecord (slotBytes p) = some p := by
  obtain ⟨inRange, -, -⟩ := p.valid_iff.mp valid
  refine slotRecord_eq_some_iff.mpr ⟨rfl, ?_, rfl, rfl, actionOf_actionBytes (inRange .red),
    actionOf_actionBytes (inRange .green), actionOf_actionBytes (inRange .blue),
    (word16_byte p.tag).symm, valid⟩
  rw [keyOf, byte_toNat row, byte_toNat col]

/-! ## The header (R158, R164, R185) -/

/-- R164: the header that the bytes spell, with its cadence. -/
def headerAt (bytes : List Byte) (i : ProbeInterval) : Header where
  count := (word16 (bytes.getD 2 0) (bytes.getD 3 0)).toNat
  generation := bytes.getD 4 0 ++ bytes.getD 5 0 ++ bytes.getD 6 0 ++ bytes.getD 7 0
  geometry := ⟨(bytes.getD 8 0).toNat + 1, (bytes.getD 9 0).toNat + 1⟩
  driveMax := (word16 (bytes.getD 10 0) (bytes.getD 11 0)).toNat
  probeInterval := i
  debounce := (bytes.getD 13 0).toNat
  healProbes := (bytes.getD 14 0).toNat
  enable := (bytes.getD 15 0).toNat == 1

/-- R164 step 5: the checks of the header, but for the cadence's. -/
def HeaderPasses (bytes : List Byte) : Prop :=
  word16 (bytes.getD 0 0) (bytes.getD 1 0) = Config.formatWord ∧
    (word16 (bytes.getD 2 0) (bytes.getD 3 0)).toNat ≤ 512 ∧ (bytes.getD 8 0).toNat ≤ 127 ∧
    driveMaxValid (word16 (bytes.getD 10 0) (bytes.getD 11 0)).toNat = true ∧
    monitorSettingsValid (bytes.getD 13 0).toNat (bytes.getD 14 0).toNat
      (bytes.getD 15 0).toNat = true

theorem headerOfBytes_of_length_ne {bytes : List Byte} (h : bytes.length ≠ 32) :
    headerOfBytes bytes = none := by
  unfold headerOfBytes
  split
  · exact absurd rfl h
  · rfl

/-- A list is made of what stands at its places. -/
theorem eq_map_getD (bytes : List Byte) :
    bytes = (List.range bytes.length).map (bytes.getD · 0) := by
  refine List.ext_getElem (by simp) fun n h _ => ?_
  simp [h]

/-- R164 step 5: 32 bytes are checked and read at their places. -/
theorem headerOfBytes_of_length {bytes : List Byte} (h : bytes.length = 32) :
    headerOfBytes bytes =
      if word16 (bytes.getD 0 0) (bytes.getD 1 0) ≠ Config.formatWord
          ∨ Config.tableCapacity < (word16 (bytes.getD 2 0) (bytes.getD 3 0)).toNat
          ∨ 127 < (bytes.getD 8 0).toNat
          ∨ driveMaxValid (word16 (bytes.getD 10 0) (bytes.getD 11 0)).toNat = false
          ∨ monitorSettingsValid (bytes.getD 13 0).toNat (bytes.getD 14 0).toNat
              (bytes.getD 15 0).toNat = false then none
      else (ProbeInterval.ofCode (bytes.getD 12 0).toNat).map (headerAt bytes) :=
  (congrArg headerOfBytes ((eq_map_getD bytes).trans (by rw [h]))).trans rfl

/-- R164 step 5: a header is accepted, and what it then gives. -/
theorem headerOfBytes_eq_some_iff {bytes : List Byte} {h : Header} :
    headerOfBytes bytes = some h ↔ bytes.length = 32 ∧ HeaderPasses bytes ∧
      ∃ i : ProbeInterval, i.code = (bytes.getD 12 0).toNat ∧ headerAt bytes i = h := by
  by_cases length : bytes.length = 32
  · rw [headerOfBytes_of_length length, Option.ite_none_left_eq_some, Option.map_eq_some_iff]
    simp only [ProbeInterval.ofCode_eq_some_iff, HeaderPasses, Config.tableCapacity, length,
      not_or, not_lt, not_not, Bool.not_eq_false, true_and]
  · simp [headerOfBytes_of_length_ne length, length]

/-- R164 step 5: the checks of the header, byte by byte. -/
theorem headerOfBytes_isSome_iff {bytes : List Byte} (length : bytes.length = 32) :
    (headerOfBytes bytes).isSome = true ↔
      HeaderPasses bytes ∧ (bytes.getD 12 0).toNat ≤ 5 := by
  simp only [Option.isSome_iff_exists, headerOfBytes_eq_some_iff]
  constructor
  · rintro ⟨_, -, passes, i, code, -⟩
    exact ⟨passes, code ▸ i.code_le⟩
  · rintro ⟨passes, inRange⟩
    obtain ⟨i, code⟩ := ProbeInterval.exists_code inRange
    exact ⟨_, length, passes, i, code, rfl⟩

/-- R158: the values of a header whose fields fit their bytes stand at their places. -/
theorem headerAt_headerBytes {h : Header} (crc : Word16) (count : h.count < 65536)
    (rows : 1 ≤ h.geometry.rows ∧ h.geometry.rows ≤ 256)
    (cols : 1 ≤ h.geometry.cols ∧ h.geometry.cols ≤ 256) (drive : h.driveMax < 65536)
    (debounce : h.debounce < 256) (heal : h.healProbes < 256) :
    headerAt (headerBytes h crc) h.probeInterval = h := by
  have enable : ((presence h.enable).toNat == 1) = h.enable := by cases h.enable <;> rfl
  have rowsRead : (byte (h.geometry.rows - 1)).toNat + 1 = h.geometry.rows := by
    rw [byte_toNat (by omega)]; omega
  have colsRead : (byte (h.geometry.cols - 1)).toNat + 1 = h.geometry.cols := by
    rw [byte_toNat (by omega)]; omega
  show Header.mk (word16 (byte (h.count / 256)) (byte h.count)).toNat
    (byte (h.generation.toNat / 2 ^ 24) ++ byte (h.generation.toNat / 2 ^ 16) ++
      byte (h.generation.toNat / 2 ^ 8) ++ byte h.generation.toNat)
    ⟨(byte (h.geometry.rows - 1)).toNat + 1, (byte (h.geometry.cols - 1)).toNat + 1⟩
    (word16 (byte (h.driveMax / 256)) (byte h.driveMax)).toNat h.probeInterval
    (byte h.debounce).toNat (byte h.healProbes).toNat ((presence h.enable).toNat == 1) = h
  rw [word16_byte_toNat count, word32_byte, rowsRead, colsRead, word16_byte_toNat drive,
    byte_toNat debounce, byte_toNat heal, enable]

/-- R164 step 5: a header in range passes the checks. -/
theorem headerPasses_headerBytes {h : Header} (crc : Word16) (count : h.count ≤ 512)
    (rows : h.geometry.rows ≤ 128) (drive : 255 ≤ h.driveMax ∧ h.driveMax ≤ 4095)
    (debounce : 2 ≤ h.debounce ∧ h.debounce ≤ 32)
    (heal : 1 ≤ h.healProbes ∧ h.healProbes ≤ 15) : HeaderPasses (headerBytes h crc) := by
  have enable : (presence h.enable).toNat ≤ 1 := by cases h.enable <;> decide
  refine ⟨word16_byte Config.formatWord, ?_, ?_, ?_, ?_⟩
  · show (word16 (byte (h.count / 256)) (byte h.count)).toNat ≤ 512
    rwa [word16_byte_toNat (by omega)]
  · show (byte (h.geometry.rows - 1)).toNat ≤ 127
    rw [byte_toNat (by omega)]
    omega
  · show driveMaxValid (word16 (byte (h.driveMax / 256)) (byte h.driveMax)).toNat = true
    rwa [word16_byte_toNat (by omega), driveMaxValid_iff]
  · show monitorSettingsValid (byte h.debounce).toNat (byte h.healProbes).toNat _ = true
    rw [byte_toNat (by omega), byte_toNat (by omega)]
    exact (monitorSettingsValid_iff ..).mpr
      ⟨debounce.1, debounce.2, heal.1, heal.2, enable⟩

/-! ## What a save writes, a load reads back -/

/-- Settles O53: the layouts byte by byte; then a slot and a header, read by what their bytes spell. -/
theorem imageReadsBack : Obligations.ImageReadsBack := by
  refine ⟨fun h crc => ⟨rfl, rfl⟩, fun _ => rfl, fun p valid row col =>
    ⟨slotRecord_slotBytes valid (by omega) col, slotBytes_length p⟩, ?_⟩
  intro h crc count rowsLeast rowsMost colsLeast colsMost driveLeast driveMost debounceLeast
    debounceMost healLeast healMost
  refine ⟨headerOfBytes_eq_some_iff.mpr ⟨rfl, ?_, h.probeInterval, ?_, ?_⟩,
    word16_byte crc, rfl⟩
  · exact headerPasses_headerBytes crc count rowsMost ⟨driveLeast, driveMost⟩
      ⟨debounceLeast, debounceMost⟩ ⟨healLeast, healMost⟩
  · have inRange := h.probeInterval.code_le
    exact (byte_toNat (by omega)).symm
  · exact headerAt_headerBytes crc (by omega) ⟨rowsLeast, by omega⟩ ⟨colsLeast, colsMost⟩
      (by omega) (by omega) (by omega)

end Sys2Proof.Machine
end

section
/-! PROOFS. What a load reads (R164, R165): the CRC bit by bit (R158), and what the header and each slot lead to. -/
namespace Sys2Proof.Machine

/-! ## The CRC (R158) -/

/-- R158: one bit of a byte taken into the CRC. -/
def crcStep (b : Byte) (c : Word16) (n : Nat) : Word16 :=
  if c.getLsbD 15 = b.getLsbD n then c <<< 1 else (c <<< 1) ^^^ 0x1021#16

/-- R158: the bits still to come lie over the CRC, the next one at its top. -/
theorem crcBit_xor (x y : Word16) :
    crcBit (x ^^^ y) =
      (if x.getLsbD 15 = y.getLsbD 15 then x <<< 1 else (x <<< 1) ^^^ 0x1021#16) ^^^ y <<< 1 := by
  unfold crcBit
  rw [BitVec.getLsbD_xor, BitVec.shiftLeft_xor_distrib]
  cases x.getLsbD 15 <;> cases y.getLsbD 15
  · rfl
  · simp only [Bool.false_xor, if_true, Bool.false_eq_true, if_false]
    ac_rfl
  · simp only [Bool.true_xor, Bool.not_false, if_true, Bool.true_eq_false, if_false]
    ac_rfl
  · rfl

/-- R158: a byte shifted so that its bit 15 - k comes next. -/
theorem crcBit_shifted (b : Byte) (c : Word16) {k : Nat} (low : 8 ≤ k) (high : k ≤ 15) :
    crcBit (c ^^^ b.setWidth 16 <<< k) =
      crcStep b c (15 - k) ^^^ b.setWidth 16 <<< (k + 1) := by
  have top : (b.setWidth 16 <<< k).getLsbD 15 = b.getLsbD (15 - k) := by
    rw [BitVec.getLsbD_shiftLeft, BitVec.getLsbD_setWidth]
    simp [Nat.not_lt.mpr high, show 15 - k < 16 by omega]
  rw [crcBit_xor, top, ← BitVec.shiftLeft_add]
  rfl

/-- R158: a byte is taken most significant bit first. -/
theorem crcByte_eq (c : Word16) (b : Byte) :
    crcByte c b = ([7, 6, 5, 4, 3, 2, 1, 0] : List Nat).foldl (crcStep b) c := by
  have out (x : Word16) : x ^^^ b.setWidth 16 <<< 16 = x := by
    rw [BitVec.shiftLeft_eq_zero (le_refl 16), BitVec.xor_zero]
  unfold crcByte
  rw [crcBit_shifted b _ (k := 8) (by decide) (by decide),
    crcBit_shifted b _ (k := 9) (by decide) (by decide),
    crcBit_shifted b _ (k := 10) (by decide) (by decide),
    crcBit_shifted b _ (k := 11) (by decide) (by decide),
    crcBit_shifted b _ (k := 12) (by decide) (by decide),
    crcBit_shifted b _ (k := 13) (by decide) (by decide),
    crcBit_shifted b _ (k := 14) (by decide) (by decide),
    crcBit_shifted b _ (k := 15) (by decide) (by decide), out]
  rfl

/-- R158: the check value of the CRC. -/
theorem crcOver_digits :
    crcOver 0xFFFF#16 [0x31, 0x32, 0x33, 0x34, 0x35, 0x36, 0x37, 0x38, 0x39] = 0x29B1#16 := by
  simp [crcOver, crcByte, crcBit]

/-! ## Read data (R164, R165) -/

section
variable {s : State} {w : LoadWork} {bytes : List Byte}

/-- R164 step 4: a transfer of the length asked for, before the header is accepted. -/
theorem exec_readData_of_header {a : Nat} (work : s.store.work = .loading w)
    (reading : s.store.flash = .reading a bytes.length) (header : w.header = none) :
    exec (.readData bytes) s = .next (s.quiet.headerRead w bytes) := by
  show execReadData bytes s = _
  unfold execReadData
  rw [reading, work]
  dsimp only
  rw [if_pos rfl, header]

/-- R165: a transfer of the length asked for, once the header is accepted. -/
theorem exec_readData_of_slot {a : Nat} (work : s.store.work = .loading w)
    (reading : s.store.flash = .reading a bytes.length) (header : w.header ≠ none) :
    exec (.readData bytes) s = .next (s.quiet.slotRead w bytes) := by
  obtain ⟨h, accepted⟩ := Option.ne_none_iff_exists'.mp header
  show execReadData bytes s = _
  unfold execReadData
  rw [reading, work]
  dsimp only
  rw [if_pos rfl, accepted]

/-- R166: the load fails at its header. -/
theorem headerRead_of_none (bad : headerOfBytes bytes = none) :
    s.headerRead w bytes = (s.setWork s.store.work).storeAsks .endLoadFailure := by
  unfold State.headerRead
  rw [bad]
  rfl

/-- R164 steps 4 and 6: an accepted header starts the CRC and sets the geometry. -/
theorem headerRead_of_some {h : Header} (good : headerOfBytes bytes = some h) :
    s.headerRead w bytes = (s.setWork (.loading { w with
      header := some h
      headerCrc := word16 (bytes.getD 30 0) (bytes.getD 31 0)
      crc := crcOver 0xFFFF#16 (bytes.take 30) })).storeAsks (.loadGeometry h.geometry) := by
  unfold State.headerRead
  rw [good]
  rfl

/-- R165 check 3: a key ahead of the last one, if there is one. -/
theorem LoadWork.inOrder_iff (w : LoadWork) (p : Persistent) :
    w.inOrder p = true ↔ ∀ k, w.lastKey = some k → k.before p.key := by
  unfold LoadWork.inOrder aheadOf
  cases w.lastKey <;> simp

/-- R166: the load fails at a slot that gives no record. -/
theorem slotRead_of_none (bad : slotRecord bytes = none) :
    s.slotRead w bytes = (s.setWork s.store.work).storeAsks .endLoadFailure := by
  unfold State.slotRead
  rw [bad]
  rfl

/-- R166: the load fails at a record out of order. -/
theorem slotRead_of_disorder {p : Persistent} (good : slotRecord bytes = some p)
    (disorder : ¬ ∀ k, w.lastKey = some k → k.before p.key) :
    s.slotRead w bytes = (s.setWork s.store.work).storeAsks .endLoadFailure := by
  unfold State.slotRead
  rw [good]
  exact if_neg fun h => disorder ((w.inOrder_iff p).mp h)

/-- R165: a record in order is inserted. -/
theorem slotRead_of_order {p : Persistent} (good : slotRecord bytes = some p)
    (order : ∀ k, w.lastKey = some k → k.before p.key) :
    s.slotRead w bytes = (s.setWork (.loading { w with
      crc := crcOver w.crc bytes })).storeAsks (.loadInsert p) := by
  unfold State.slotRead
  rw [good]
  exact if_pos ((w.inOrder_iff p).mpr order)

end

/-- R165, R166: whatever the bytes are, the load's work and its next table operation follow. -/
theorem readData_leadsOn {s : State} {w : LoadWork} {bytes : List Byte} {a : Nat}
    (work : s.store.work = .loading w) (reading : s.store.flash = .reading a bytes.length) :
    ∃ x r, exec (.readData bytes) s = .next ((s.quiet.setWork x).storeAsks r) := by
  by_cases header : w.header = none
  · have run := exec_readData_of_header work reading header
    cases spelt : headerOfBytes bytes with
    | none => exact ⟨_, _, run.trans (congrArg _ (headerRead_of_none spelt))⟩
    | some h => exact ⟨_, _, run.trans (congrArg _ (headerRead_of_some spelt))⟩
  · have run := exec_readData_of_slot work reading header
    cases spelt : slotRecord bytes with
    | none => exact ⟨_, _, run.trans (congrArg _ (slotRead_of_none spelt))⟩
    | some p =>
      by_cases order : ∀ k, w.lastKey = some k → k.before p.key
      · exact ⟨_, _, run.trans (congrArg _ (slotRead_of_order spelt order))⟩
      · exact ⟨_, _, run.trans (congrArg _ (slotRead_of_disorder spelt order))⟩

/-- R165, R166: the request and the work that a transfer leaves are those of any account of what it leads to. -/
theorem asked_and_work_of_run {s : State} {x y : StoreWork} {q r : StoreReq}
    {c : Instr} (run : exec c s = .next ((s.quiet.setWork x).storeAsks q))
    (led : exec c s = .next ((s.quiet.setWork y).storeAsks r)) :
    ((s.quiet.setWork x).storeAsks q).arbiter.store = some r ∧
      ((s.quiet.setWork x).storeAsks q).store.work = y := by
  rw [Host.Outcome.next.inj (run.symm.trans led)]
  exact ⟨storeAsks_asked _ _, rfl⟩

/-- Settles O52: the transfer by what it spells; the header and the slot by their bytes; and the CRC. -/
theorem imageBytesAreChecked : Obligations.ImageBytesAreChecked := by
  refine ⟨fun s w bytes a work reading => ?_, fun bytes length => ?_,
    fun _ => headerOfBytes_of_length_ne, fun bytes h spelt => ?_, fun _ _ => rfl,
    fun _ _ => valid_of_imageRecord,
    fun p => p.valid_iff_actions.trans (and_congr_left' (forall₂_congr fun a _ =>
      and_congr_left' (a.mode.admits_iff a.value))), ?_,
    fun c b bytes => ⟨rfl, congrArg (crcOver · bytes) (crcByte_eq c b)⟩, crcOver_digits⟩
  · obtain ⟨x, r, run⟩ := readData_leadsOn work reading
    have leads := fun {y q} => asked_and_work_of_run (y := y) (r := q) run
    refine ⟨_, run, unchangedBut_asked s x r, rfl, rfl, rfl, fun header => ?_, fun header => ?_⟩
    · have ended := exec_readData_of_header work reading header
      exact ⟨fun bad => leads (ended.trans (congrArg _ (headerRead_of_none bad))),
        fun h good => leads (ended.trans (congrArg _ (headerRead_of_some good)))⟩
    · have ended := exec_readData_of_slot work reading header
      exact ⟨fun bad => leads (ended.trans (congrArg _ (slotRead_of_none bad))), fun p good =>
        ⟨fun order => leads (ended.trans (congrArg _ (slotRead_of_order good order))),
        fun disorder => leads (ended.trans (congrArg _ (slotRead_of_disorder good disorder)))⟩⟩
  · rw [headerOfBytes_isSome_iff length, HeaderPasses, word16_eq_formatWord_iff,
      driveMaxValid_iff, monitorSettingsValid_iff]
    constructor
    · rintro ⟨⟨⟨f1, f0⟩, count, rows, ⟨least, most⟩, d1, d2, h1, h2, enable⟩, interval⟩
      exact ⟨f1, f0, count, rows, least, most, interval, d1, d2, h1, h2, enable⟩
    · rintro ⟨f1, f0, count, rows, least, most, interval, d1, d2, h1, h2, enable⟩
      exact ⟨⟨⟨f1, f0⟩, count, rows, ⟨least, most⟩, d1, d2, h1, h2, enable⟩, interval⟩
  · obtain ⟨-, -, i, code, rfl⟩ := headerOfBytes_eq_some_iff.mp spelt
    exact ⟨rfl, rfl, rfl, rfl, code, rfl, rfl,
      beq_iff_eq.trans (byte_eq_iff (n := 1) (by decide)).symm⟩
  · intro row col o st rm rh rl gm gh gl bm bh bl th tl pad p
    rw [slotRecord_eq_some_iff, p.valid_iff_actions]
    simp only [actionOf_eq_some_iff, Mode.admits_iff, List.forall_mem_cons, List.not_mem_nil,
      false_imp_iff, implies_true, and_true, List.exists_mem_cons_iff, false_and, exists_false,
      or_false]
    constructor
    · rintro ⟨padding, key, origin, status, ⟨rv, rc, -⟩, ⟨gv, gc, -⟩, ⟨bv, bc, -⟩, tag,
        ⟨⟨rr, ra⟩, ⟨gr, ga⟩, br, ba⟩, marked⟩
      exact ⟨padding, key, origin, status, ⟨⟨rv, rc, rr, ra⟩, ⟨gv, gc, gr, ga⟩, bv, bc, br, ba⟩,
        marked, tag⟩
    · rintro ⟨padding, key, origin, status, ⟨⟨rv, rc, rr, ra⟩, ⟨gv, gc, gr, ga⟩, bv, bc, br, ba⟩,
        marked, tag⟩
      exact ⟨padding, key, origin, status, ⟨rv, rc, rr⟩, ⟨gv, gc, gr⟩, ⟨bv, bc, br⟩, tag,
        ⟨⟨rr, ra⟩, ⟨gr, ga⟩, br, ba⟩, marked⟩

end Sys2Proof.Machine
end

section
/-! PROOFS. Events and the attention line (chapter 10): the place of each flag and what a raise sets (R169, R170), ATTN_N (R171), and the commands that read and mask the flags (R172, R173). -/
namespace Sys2Proof.Machine

/-! ## The flags (R169, R185) -/

/-- R169, R185: the event order. -/
def eventOrder : List Event :=
  [.promoted, .recordFault, .healed, .suspectFull, .tableFull, .reportOverrun, .violation,
    .storeDone, .storeFault, .imageBad, .answerLost, .videoLost, .shortFrame, .serviceClosed]

theorem eventOrder_bit (e : Event) : eventOrder[e.bit]? = some e := by
  cases e <;> rfl

theorem Event.bit_lt (e : Event) : e.bit < 14 :=
  (List.getElem?_eq_some_iff.mp (eventOrder_bit e)).1

/-- R185: no two flags share a bit. -/
theorem Event.bit_inj {e e' : Event} : e.bit = e'.bit ↔ e = e' := by
  refine ⟨fun same => ?_, congrArg Event.bit⟩
  have place := eventOrder_bit e
  rw [same, eventOrder_bit e'] at place
  exact (Option.some.inj place).symm

/-- R185: an event stands in the event order at its bit and nowhere else. -/
theorem eventOrder_eq_some_iff (n : Nat) (e : Event) : eventOrder[n]? = some e ↔ n = e.bit := by
  refine ⟨fun place => ?_, fun place => place ▸ eventOrder_bit e⟩
  have bits : eventOrder.map Event.bit = List.range 14 := rfl
  have bit : (eventOrder.map Event.bit)[n]? = some e.bit := by
    rw [List.getElem?_map, place, Option.map_some]
  rw [bits] at bit
  obtain ⟨inRange, value⟩ := List.getElem?_eq_some_iff.mp bit
  exact List.getElem_range inRange ▸ value

/-- R169: a raise sets its own flag and no other. -/
theorem Events.has_raise (ev : Events) (e e' : Event) :
    (ev.raise e).has e' = (decide (e' = e) || ev.has e') := by
  have own : (1#14 <<< e.bit).getLsbD e'.bit = decide (e' = e) := by
    rw [← BitVec.twoPow_eq, BitVec.getLsbD_twoPow]
    simp [e.bit_lt, Event.bit_inj, eq_comm]
  show (ev.flags ||| 1#14 <<< e.bit).getLsbD e'.bit = _
  rw [BitVec.getLsbD_or, own, Bool.or_comm]
  rfl

/-! ## ATTN_N (R171) -/

/-- A word of which no bit is set is zero. -/
theorem bitVec_ne_zero_iff {w : Nat} (x : BitVec w) :
    x ≠ 0 ↔ ∃ n, n < w ∧ x.getLsbD n = true := by
  rw [ne_eq, BitVec.eq_of_getLsbD_eq_iff]
  simp

/-- R171: ATTN_N is low exactly while a flag is set whose mask bit is set. -/
theorem State.attnLow_iff (s : State) :
    s.attnLow = true ↔
      ∃ n, n < 14 ∧ s.events.flags.getLsbD n = true ∧ s.events.mask.getLsbD n = true := by
  unfold State.attnLow
  rw [bne_iff_ne, bitVec_ne_zero_iff]
  simp only [BitVec.getLsbD_and, Bool.and_eq_true]

/-- R171: with every flag clear the pin is released, whatever the mask. -/
theorem State.attnLow_of_noFlag {s : State} (clear : s.events.flags = 0) : s.attnLow = false := by
  unfold State.attnLow
  rw [clear]
  exact bne_eq_false_iff_eq.mpr BitVec.zero_and

/-- Settles O31: each flag has a bit of its own, in the event order, and a raise sets that bit. -/
theorem raiseSetsOneFlag : Obligations.RaiseSetsOneFlag := by
  refine ⟨fun ev n e place => ?_, fun ev e e' => ⟨ev.has_raise e e', rfl, rfl, rfl, rfl⟩,
    fun s k e => ⟨rfl, rfl, rfl, rfl⟩, State.attnLow_iff⟩
  rw [(eventOrder_eq_some_iff n e).mp place]
  rfl

/-! ## READ_EVENTS and SET_EVENT_MASK (R172, R173) -/

/-- R173: a word with no bit above the fourteen is a mask. -/
theorem maskOfWord_of_lt {m : Word16} (low : m.toNat < 2 ^ 14) :
    maskOfWord m = some (m.setWidth 14) := if_pos low

theorem maskOfWord_of_le {m : Word16} (high : 2 ^ 14 ≤ m.toNat) : maskOfWord m = none :=
  if_neg (Nat.not_lt.mpr high)

/-- R173: SET_EVENT_MASK with a mask. -/
theorem startSetEventMask_of_lt {m : Word16} (s : State) (low : m.toNat < 2 ^ 14) :
    s.startSetEventMask m =
      (s.withEvents { s.events with mask := m.setWidth 14 }).respond .unit .ok (be16 m.toNat) := by
  unfold State.startSetEventMask
  rw [maskOfWord_of_lt low]

/-- R173: SET_EVENT_MASK with a bit above the fourteen. -/
theorem startSetEventMask_of_le {m : Word16} (s : State) (high : 2 ^ 14 ≤ m.toNat) :
    s.startSetEventMask m = s.respond .unit .badField [] := by
  unfold State.startSetEventMask
  rw [maskOfWord_of_le high]

section
variable {s : State} (code : Byte) (x : Events) (result : ResultCode) (data : List Byte)

/-- R177: a command that writes the event unit and answers. -/
theorem answered_withEvents : Answered s .unit result data
    (((s.taken .unit code).withEvents x).respond .unit result data) :=
  answered_respond (u := (s.taken .unit code).withEvents x) (code := code) rfl result data

theorem unchangedBut_withEvents_respond : UnchangedBut [.engine, .events] s
    (((s.taken .unit code).withEvents x).respond .unit result data) :=
  (((unchangedBut_taken s .unit code).trans (unchangedBut_withEvents _ _)).trans
    (unchangedBut_respond _ _ _ _)).mono (by decide)

end

/-- R172: the flags and keys answered are those after acceptance, and the mask stays. -/
theorem exec_readEvents {s : State} (hs : s.refusesWrite .unit = false) :
    exec .readEvents s = .next (((s.taken .unit 0x03).withEvents
      ⟨0, s.events.mask, none, none, none⟩).respond .unit .ok
        (eventsAnswer (s.acceptWrite .unit).events)) := by
  rw [exec_of_taken (code := 0x03) hs rfl, ← acceptWrite_mask s .unit]
  rfl

/-- R173: SET_EVENT_MASK taken, by its mask. -/
theorem setEventMask_isTaken (m : Word16) {s : State} (hs : s.refusesWrite .unit = false) :
    ∃ t, exec (.setEventMask m) s = .next t ∧ UnchangedBut [.engine, .events] s t ∧
      (m.toNat < 2 ^ 14 → Answered s .unit .ok (be16 m.toNat) t ∧
        t.events = { (s.acceptWrite .unit).events with mask := m.setWidth 14 }) ∧
      (2 ^ 14 ≤ m.toNat → Answered s .unit .badField [] t ∧
        t.events = (s.acceptWrite .unit).events) := by
  obtain low | high := Nat.lt_or_ge m.toNat (2 ^ 14)
  · have exec_eq : exec (.setEventMask m) s = .next ((s.taken .unit 0x04).startSetEventMask m) :=
      exec_of_taken hs rfl
    rw [startSetEventMask_of_lt _ low] at exec_eq
    exact ⟨_, exec_eq, unchangedBut_withEvents_respond .., fun _ => ⟨answered_withEvents .., rfl⟩,
      fun high => absurd low (Nat.not_lt.mpr high)⟩
  · obtain ⟨t, exec_eq, answered, events, frame⟩ :=
      exec_answers (c := .setEventMask m) (code := 0x04) hs rfl
        (startSetEventMask_of_le _ high)
    exact ⟨t, exec_eq, frame, fun low => absurd low (Nat.not_lt.mpr high),
      fun _ => ⟨answered, events⟩⟩

/-- Settles O30: READ_EVENTS answers the events it clears, and SET_EVENT_MASK is split by its mask. -/
theorem eventsAreReadAndMasked : Obligations.EventsAreReadAndMasked :=
  ⟨⟨rfl, fun _ => rfl⟩,
    fun _ hs => ⟨_, exec_readEvents hs, answered_withEvents .., rfl, State.attnLow_of_noFlag rfl,
      unchangedBut_withEvents_respond ..⟩,
    fun m _ hs => setEventMask_isTaken m hs⟩

end Sys2Proof.Machine
end

section
/-! PROOFS. The service port (chapter 11): addresses and the first data byte of a write (R175, R177, R179, R180), refused writes, the end of a write and its requests (R176, R185), reads and ABORT (R178, R179), and DESCRIBE (R181). -/
namespace Sys2Proof.Machine

/-! ## Addresses (R175) -/

/-- R175: the group address is no unit address, whatever the straps. -/
theorem groupAddress_ne_unitAddress (straps : BitVec 3) : 0x57#7 ≠ 0x58#7 + straps.setWidth 7 := by
  revert straps
  decide

section
variable {s : State} {a : BitVec 7}

theorem addressed_unit (unit : a = 0x58#7 + s.pins.straps.setWidth 7) :
    s.addressed a = some .unit := if_pos unit

theorem addressed_group (group : a = 0x57#7) : s.addressed a = some .group :=
  (if_neg (group ▸ groupAddress_ne_unitAddress s.pins.straps)).trans (if_pos group)

theorem addressed_none (unit : a ≠ 0x58#7 + s.pins.straps.setWidth 7) (group : a ≠ 0x57#7) :
    s.addressed a = none := (if_neg unit).trans (if_neg group)

end

/-! ## What the port writes -/

section
variable (s : State)

theorem unchangedBut_withEngine (e : Engine) : UnchangedBut [.engine] s (s.withEngine e) := by
  rw [unchangedBut_iff]
  simp

theorem unchangedBut_bus (items : List PortItem) : UnchangedBut [] s (s.bus items) := by
  rw [unchangedBut_iff]
  simp

/-- An output alone. -/
theorem unchangedBut_quiet_bus (items : List PortItem) : UnchangedBut [] s (s.quiet.bus items) :=
  (unchangedBut_quiet s).trans (unchangedBut_bus _ _)

/-- An output and the engine's block. -/
theorem unchangedBut_quiet_withEngine_bus (e : Engine) (items : List PortItem) :
    UnchangedBut [.engine] s ((s.quiet.withEngine e).bus items) :=
  ((unchangedBut_quiet s).trans (unchangedBut_withEngine _ e)).trans (unchangedBut_bus _ _)

theorem unchangedBut_acceptRequest : UnchangedBut [.engine, .events] s s.acceptRequest := by
  unfold State.acceptRequest
  split
  · exact (unchangedBut_withEngine s _).trans (unchangedBut_raise _ _)
  · exact ⟨fun b _ => by cases b <;> rfl, rfl⟩

theorem setWrite_engine (w : PortWrite) :
    (s.setWrite w).engine = ⟨s.engine.hand, s.engine.answer, w⟩ := rfl

/-- R177: acceptance empties the answer buffer. -/
theorem acceptRequest_engine :
    s.acceptRequest.engine = ⟨s.engine.hand, none, s.engine.write⟩ := by
  unfold State.acceptRequest
  split
  · rfl
  · rename_i empty
    rw [← Option.not_isSome_iff_eq_none.mp empty]

/-- R177: an answer not yet read is lost. -/
theorem acceptRequest_events : s.acceptRequest.events =
    if s.engine.answer = none then s.events else s.events.raise .answerLost := by
  unfold State.acceptRequest
  cases s.engine.answer <;> rfl

theorem acceptRequest_out : s.acceptRequest.out = s.out := by
  unfold State.acceptRequest
  split <;> rfl

theorem acceptRequest_of_none {s : State} (empty : s.engine.answer = none) :
    s.acceptRequest = s := if_neg (by simp [empty])

end

theorem Engine.idle_iff (e : Engine) : e.idle = true ↔ e.hand = none := Option.isNone_iff_eq_none

/-! ## The first data byte of a write (R177, R179, R180) -/

section
variable {s : State} {a : BitVec 7} (b : Byte)

theorem exec_requestAccept_none (other : s.addressed a = none) :
    exec (.requestAccept a b) s = .next (s.quiet.bus [.address false]) := by
  show execRequestAccept a b s = _
  unfold execRequestAccept
  rw [other]

theorem exec_requestAccept_unit (unit : s.addressed a = some .unit) :
    exec (.requestAccept a b) s = .next ((s.quiet.bus [.address true]).unitFirstByte b) := by
  show execRequestAccept a b s = _
  unfold execRequestAccept
  rw [unit]

theorem exec_requestAccept_group (group : s.addressed a = some .group) :
    exec (.requestAccept a b) s = .next (s.quiet.bus [.address true]).groupFirstByte := by
  show execRequestAccept a b s = _
  unfold execRequestAccept
  rw [group]

variable {b}

/-- R179: an ABORT byte is acknowledged, whatever the engine does. -/
theorem unitFirstByte_of_abort (abort : b = 0xA5#8) :
    s.unitFirstByte b = (s.setWrite .abortByte).bus [.firstByte true] := if_pos abort

/-- R177: an IDLE engine accepts. -/
theorem unitFirstByte_of_idle (other : b ≠ 0xA5#8) (idle : s.engine.hand = none) :
    s.unitFirstByte b = (s.acceptRequest.setWrite .unitAccepted).bus [.firstByte true] :=
  (if_neg other).trans (if_pos (s.engine.idle_iff.mpr idle))

/-- R177: an EXECUTING engine refuses. -/
theorem unitFirstByte_of_executing (other : b ≠ 0xA5#8) (executing : s.engine.hand ≠ none) :
    s.unitFirstByte b = (s.setWrite .unitRefused).bus [.firstByte false] :=
  (if_neg other).trans (if_neg fun idle => executing (s.engine.idle_iff.mp idle))

theorem groupFirstByte_of_idle (idle : s.engine.hand = none) :
    s.groupFirstByte = (s.setWrite .groupAccepted).bus [.firstByte true] :=
  if_pos (s.engine.idle_iff.mpr idle)

theorem groupFirstByte_of_executing (executing : s.engine.hand ≠ none) :
    s.groupFirstByte = (s.setWrite .groupRefused).bus [.firstByte false] :=
  if_neg fun idle => executing (s.engine.idle_iff.mp idle)

end

/-- A first byte that is only marked: the bus items, the mark, and nothing else. -/
theorem marked_firstByte (s : State) (w : PortWrite) (acknowledged : Bool) :
    let t := ((s.quiet.bus [.address true]).setWrite w).bus [.firstByte acknowledged]
    t.out.port = [.address true, .firstByte acknowledged] ∧
      t.engine = { s.engine with write := w } ∧ UnchangedBut [.engine] s t :=
  ⟨rfl, rfl, ((unchangedBut_quiet_bus s _).trans (unchangedBut_withEngine _ _)).trans
    (unchangedBut_bus _ _)⟩

/-- R177: a first byte accepted at the unit address discards an unread answer. -/
theorem accepted_firstByte {s : State} (idle : s.engine.hand = none) :
    let t := ((s.quiet.bus [.address true]).acceptRequest.setWrite .unitAccepted).bus
      [.firstByte true]
    t.out.port = [.address true, .firstByte true] ∧ t.engine = ⟨none, none, .unitAccepted⟩ ∧
      t.events = (if s.engine.answer = none then s.events else s.events.raise .answerLost) ∧
      UnchangedBut [.engine, .events] s t := by
  refine ⟨?_, ?_, acceptRequest_events _, ((((unchangedBut_quiet_bus s _).trans
    (unchangedBut_acceptRequest _)).trans (unchangedBut_withEngine _ _)).trans
    (unchangedBut_bus _ _)).mono (by decide)⟩
  · show (s.quiet.bus [.address true]).acceptRequest.out.port ++ [.firstByte true] = _
    rw [acceptRequest_out]
    rfl
  · rw [State.bus_engine, setWrite_engine, acceptRequest_engine, State.bus_engine,
      State.quiet_engine, idle]

/-! ## Acceptance at the end of a write (log entry 11) -/

section
variable {s : State}

theorem acceptWrite_of_accepted (accepted : s.engine.write = .unitAccepted) :
    s.acceptWrite .unit = s.setWrite .none := if_pos accepted

theorem acceptWrite_of_unaccepted (unaccepted : s.engine.write ≠ .unitAccepted) :
    s.acceptWrite .unit = s.acceptRequest.setWrite .none := if_neg unaccepted

end

/-- Settles O26: the first byte by its address, its value and the engine's state; and acceptance by the mark and the answer. -/
theorem firstByteIsAcknowledgedOrRefused : Obligations.FirstByteIsAcknowledgedOrRefused := by
  refine ⟨fun a b s => ?_, fun s => ⟨acceptWrite_of_accepted, fun unaccepted empty => ?_,
    fun unaccepted unread => ?_, rfl⟩⟩
  · by_cases unit : a = 0x58#7 + s.pins.straps.setWidth 7
    · refine ⟨_, exec_requestAccept_unit b (addressed_unit unit), fun other => absurd unit other,
        fun _ => ⟨fun abort => ?_, fun other idle => ?_, fun other executing => ?_⟩,
        fun group => absurd (group ▸ unit) (groupAddress_ne_unitAddress s.pins.straps)⟩
      · rw [unitFirstByte_of_abort abort]
        exact marked_firstByte s _ _
      · rw [unitFirstByte_of_idle (s := s.quiet.bus _) other idle]
        exact accepted_firstByte idle
      · rw [unitFirstByte_of_executing (s := s.quiet.bus _) other executing]
        exact marked_firstByte s _ _
    · by_cases group : a = 0x57#7
      · refine ⟨_, exec_requestAccept_group b (addressed_group group),
          fun _ other => absurd group other, fun h => absurd h unit,
          fun _ => ⟨fun idle => ?_, fun executing => ?_⟩⟩
        · rw [groupFirstByte_of_idle (s := s.quiet.bus _) idle]
          exact marked_firstByte s _ _
        · rw [groupFirstByte_of_executing (s := s.quiet.bus _) executing]
          exact marked_firstByte s _ _
      · exact ⟨_, exec_requestAccept_none b (addressed_none unit group),
          fun _ _ => ⟨rfl, unchangedBut_quiet_bus s _⟩, fun h => absurd h unit,
          fun h => absurd h group⟩
  · rw [acceptWrite_of_unaccepted unaccepted, acceptRequest_of_none empty]
    rfl
  · rw [acceptWrite_of_unaccepted unaccepted]
    refine ⟨?_, (acceptRequest_events s).trans (if_neg unread)⟩
    rw [setWrite_engine, acceptRequest_engine]

/-! ## Refused writes (R177, R180) -/

section
variable {s : State}

/-- R177, R180: an EXECUTING engine refuses at either address. -/
theorem refusesWrite_of_executing (via : Via) (executing : s.engine.hand ≠ none) :
    s.refusesWrite via = true := by
  unfold State.refusesWrite
  rw [Option.isSome_iff_ne_none.mpr executing, Bool.true_or]

/-- R177, R179: what an IDLE engine refuses at the unit address. -/
theorem refusesWrite_unit_iff (idle : s.engine.hand = none) :
    s.refusesWrite .unit = true ↔
      s.engine.write = .unitRefused ∨ s.engine.write = .abortByte := by
  unfold State.refusesWrite
  rw [idle]
  cases s.engine.write <;> decide

/-- R180: what an IDLE engine refuses at the group address. -/
theorem refusesWrite_group_iff (idle : s.engine.hand = none) :
    s.refusesWrite .group = true ↔ s.engine.write = .groupRefused := by
  unfold State.refusesWrite
  rw [idle]
  cases s.engine.write <;> decide

end

/-- R177, R180: a refused write acknowledges no data byte and only ends its own treatment. -/
theorem discardWrite_leavesNoTrace (s : State) (via : Via) :
    (s.quiet.discardWrite via).out.port = s.endItems via 0 ∧
      (s.quiet.discardWrite via).engine = { s.engine with write := .none } ∧
      UnchangedBut [.engine] s (s.quiet.discardWrite via) :=
  ⟨rfl, rfl, unchangedBut_quiet_withEngine_bus s _ _⟩

/-- A command of the port by an address: the end of a write that carries it. -/
def Instr.takenVia (c : Instr) (via : Via) : Prop :=
  ∃ (code : Byte) (body : State → State),
    ∀ s, exec c s = .next (s.quiet.takeCommand via code body)

/-- R177, R180: a command whose write is refused. -/
theorem refused_leavesNoTrace {c : Instr} {via : Via} {s : State} (command : Instr.takenVia c via)
    (refused : s.refusesWrite via = true) :
    ∃ t, exec c s = .next t ∧ t.out.port = s.endItems via 0 ∧
      t.engine = { s.engine with write := .none } ∧ UnchangedBut [.engine] s t := by
  obtain ⟨code, body, taken⟩ := command
  refine ⟨_, taken s, ?_⟩
  rw [takeCommand_of_refused s via code body refused]
  exact discardWrite_leavesNoTrace s via

/-- Settles O35: every command listed is the end of a write, and a refused write is discarded. -/
theorem refusedWriteLeavesNoTrace : Obligations.RefusedWriteLeavesNoTrace := by
  refine ⟨fun s => ⟨fun executing => ⟨refusesWrite_of_executing .unit executing,
    refusesWrite_of_executing .group executing⟩, fun idle => ⟨refusesWrite_unit_iff idle,
    refusesWrite_group_iff idle⟩⟩, fun c via s refused unit group =>
    refused_leavesNoTrace ?_ refused⟩
  cases via with
  | unit =>
    obtain listed | ⟨m, rfl⟩ | ⟨r, q, rfl⟩ | ⟨i, rfl⟩ | ⟨x, i, rfl⟩ | ⟨r, q, rfl⟩ | ⟨r, q, rfl⟩ |
      ⟨r, q, rfl⟩ | ⟨p, rfl⟩ | rfl | rfl | rfl | ⟨d, i, rfl⟩ | ⟨d, h, e, rfl⟩ := unit rfl
    case inl =>
      simp only [List.mem_cons, List.not_mem_nil, or_false] at listed
      obtain rfl | rfl | rfl | rfl | rfl | rfl | rfl | rfl := listed
      all_goals exact ⟨_, _, fun _ => rfl⟩
    all_goals exact ⟨_, _, fun _ => rfl⟩
  | group =>
    obtain rfl | rfl | rfl | ⟨d, i, rfl⟩ | ⟨d, h, e, rfl⟩ := group rfl
    all_goals exact ⟨_, _, fun _ => rfl⟩

/-! ## The end of a write (R175, R176, R180) -/

/-- R175: the marks of a write whose address byte was acknowledged before. -/
theorem begunAt_unit_iff (w : PortWrite) :
    w.begunAt .unit = true ↔ w ∈ [.unitAccepted, .unitRefused, .abortByte] := by
  cases w <;> decide

theorem begunAt_group_iff (w : PortWrite) :
    w.begunAt .group = true ↔ w ∈ [.groupAccepted, .groupRefused] := by
  cases w <;> decide

theorem endItems_eq (s : State) (via : Via) (n : Nat) : s.endItems via n =
    if s.engine.write.begunAt via = true then [.acknowledged n]
    else [.address true, .acknowledged n] := by
  unfold State.endItems
  split <;> rfl

/-- The state in which a write's request is looked at: the write accepted, n of its bytes acknowledged. -/
def State.accepted (s : State) (via : Via) (n : Nat) : State :=
  (s.quiet.acceptWrite via).bus (s.endItems via n)

theorem accepted_out (s : State) (via : Via) (n : Nat) :
    (s.accepted via n).out.port = s.endItems via n := by
  simp [State.accepted]

theorem accepted_write (s : State) (via : Via) (n : Nat) :
    (s.accepted via n).engine.write = .none := acceptWrite_write _ via

theorem unchangedBut_accepted (s : State) (via : Via) (n : Nat) :
    UnchangedBut [.engine, .events] s (s.accepted via n) := by
  rw [unchangedBut_iff]
  simp [State.accepted]

/-- R180: a group write leaves the events too. -/
theorem unchangedBut_accepted_group (s : State) (n : Nat) :
    UnchangedBut [.engine] s (s.accepted .group n) := unchangedBut_quiet_withEngine_bus s _ _

theorem accepted_events (s : State) (via : Via) (n : Nat) :
    (s.accepted via n).events = (s.acceptWrite via).events := by
  unfold State.accepted
  rw [acceptWrite_quiet]
  rfl

section
variable {s : State} {a : BitVec 7} {via : Via} (bytes : List Byte)

theorem exec_requestWrite_none (other : s.addressed a = none) :
    exec (.requestWrite a bytes) s = .next (s.quiet.bus [.address false]) := by
  show execRequestWrite a bytes s = _
  unfold execRequestWrite
  rw [other]

theorem exec_requestWrite_some (addressed : s.addressed a = some via) :
    exec (.requestWrite a bytes) s = .next (s.quiet.writeEnds via bytes) := by
  show execRequestWrite a bytes s = _
  unfold execRequestWrite
  rw [addressed]

end

section
variable {s : State} {via : Via} {first : Byte} {rest : List Byte}

theorem writeEnds_of_refused (noAbort : ¬ (via = .unit ∧ first = 0xA5#8))
    (refused : s.refusesWrite via = true) :
    s.quiet.writeEnds via (first :: rest) = s.quiet.discardWrite via :=
  (if_neg noAbort).trans (if_pos refused)

theorem writeEnds_of_unit (noAbort : first ≠ 0xA5#8) (taken : s.refusesWrite .unit = false) :
    s.quiet.writeEnds .unit (first :: rest) =
      (s.accepted .unit (min (first :: rest).length 26)).unitRequest (first :: rest) :=
  (if_neg fun h => noAbort h.2).trans (if_neg (Bool.eq_false_iff.mp taken))

theorem writeEnds_of_group (taken : s.refusesWrite .group = false) :
    s.quiet.writeEnds .group (first :: rest) =
      (s.accepted .group (min (first :: rest).length 26)).groupRequest (first :: rest) := by
  have noAbort : ¬ (Via.group = .unit ∧ first = Config.abortByte) := nofun
  exact (if_neg (t := s.quiet.abortEnds) noAbort).trans (if_neg (Bool.eq_false_iff.mp taken))

end

section
variable {s : State} {bytes : List Byte}

/-- R176: the port answers a request that is no command. -/
theorem unitRequest_of_noCommand
    (noCommand : parseRequest .unit bytes = .malformed ∨ parseRequest .unit bytes = .unknown) :
    s.unitRequest bytes = s.respond .unit
      (if parseRequest .unit bytes = .unknown then .unknown else .malformed) [] := by
  unfold State.unitRequest
  obtain parsed | parsed := noCommand
  all_goals
    rw [parsed]
    rfl

/-- R180: what is not one of the five commands is discarded. -/
theorem groupRequest_of_noCommand
    (noCommand : parseRequest .group bytes = .malformed ∨ parseRequest .group bytes = .unknown ∨
      takenByGroup (bytes.headD 0) = false) : s.groupRequest bytes = s := by
  unfold State.groupRequest
  split
  · rfl
  · rfl
  · rename_i i parsed
    rw [parsed] at noCommand
    obtain h | h | untaken := noCommand
    · cases h
    · cases h
    · rw [untaken]
      rfl

/-- R176: a unit write that was taken, of a request that is no command. -/
theorem unitWrite_isAnswered (n : Nat)
    (noCommand : parseRequest .unit bytes = .malformed ∨ parseRequest .unit bytes = .unknown) :
    let t := (s.accepted .unit n).unitRequest bytes
    t.out.port = s.endItems .unit n ∧
      Answered s .unit (if parseRequest .unit bytes = .unknown then .unknown else .malformed) [] t ∧
      t.events = (s.acceptWrite .unit).events ∧ UnchangedBut [.engine, .events] s t := by
  dsimp only
  rw [unitRequest_of_noCommand noCommand]
  refine ⟨accepted_out s .unit n, ?_, accepted_events s .unit n,
    ((unchangedBut_accepted s .unit n).trans (unchangedBut_respond _ _ _ _)).mono (by decide)⟩
  show Engine.mk none _ (s.accepted .unit n).engine.write = _
  rw [accepted_write]

/-- R180: a group write that was taken, of a request that is not executed. -/
theorem groupWrite_isDiscarded (n : Nat)
    (noCommand : parseRequest .group bytes = .malformed ∨ parseRequest .group bytes = .unknown ∨
      takenByGroup (bytes.headD 0) = false) :
    let t := (s.accepted .group n).groupRequest bytes
    t.out.port = s.endItems .group n ∧ t.engine = { s.engine with write := .none } ∧
      UnchangedBut [.engine] s t := by
  dsimp only
  rw [groupRequest_of_noCommand noCommand]
  exact ⟨accepted_out s .group n, rfl, unchangedBut_accepted_group s n⟩

end

/-! ## A write that carries a command (log entry 11) -/

section
variable {s : State} {i : Instr} {code n : Byte} {params : List Byte}

/-- R176: the port acknowledges every byte of a command, which is its code, its length and its parameters. -/
theorem acknowledged_of_command (count : params.length = n.toNat) (short : n.toNat ≤ 24)
    (length : paramLength code = some n.toNat) :
    min (code :: n :: params).length 26 = 2 + (paramLength code).getD 0 := by
  rw [length, Option.getD_some, List.length_cons, List.length_cons, count]
  omega

/-- R179: the ABORT byte is no command code. -/
theorem ne_abort_of_paramLength {len : Nat} (length : paramLength code = some len) :
    code ≠ 0xA5#8 := by
  rintro rfl
  cases length

theorem unitWrite_isCommand (parsed : parseRequest .unit (code :: n :: params) = .command i)
    (count : params.length = n.toNat) (short : n.toNat ≤ 24)
    (length : paramLength code = some n.toNat) :
    s.quiet.writeEnds .unit (code :: n :: params) =
      s.quiet.takeCommand .unit code (State.startCommand .unit i) := by
  have noAbort := ne_abort_of_paramLength length
  cases refusal : s.refusesWrite .unit with
  | true =>
    rw [writeEnds_of_refused (fun h => noAbort h.2) refusal,
      takeCommand_of_refused _ _ _ _ refusal]
  | false =>
    rw [writeEnds_of_unit noAbort refusal, acknowledged_of_command count short length]
    unfold State.unitRequest
    rw [parsed]
    exact (if_neg (Bool.eq_false_iff.mp refusal)).symm

theorem groupWrite_isCommand (parsed : parseRequest .group (code :: n :: params) = .command i)
    (count : params.length = n.toNat) (short : n.toNat ≤ 24)
    (length : paramLength code = some n.toNat) (permitted : takenByGroup code = true) :
    s.quiet.writeEnds .group (code :: n :: params) =
      s.quiet.takeCommand .group code (State.startCommand .group i) := by
  cases refusal : s.refusesWrite .group with
  | true =>
    rw [writeEnds_of_refused (via := .group) nofun refusal,
      takeCommand_of_refused _ _ _ _ refusal]
  | false =>
    rw [writeEnds_of_group refusal, acknowledged_of_command count short length]
    unfold State.groupRequest
    rw [parsed]
    exact (if_pos permitted).trans (if_neg (Bool.eq_false_iff.mp refusal)).symm

end

section
variable {s : State} {a : BitVec 7} {bytes : List Byte} {i : Instr}

/-- R176: the end of a unit write that carries a command is that command. -/
theorem exec_requestWrite_unitCommand (unit : s.addressed a = some .unit)
    (parsed : parseRequest .unit bytes = .command i) :
    exec (.requestWrite a bytes) s = exec i s := by
  obtain ⟨code, n, params, rfl, count, short, length, command⟩ := parseRequest_command parsed
  rw [exec_requestWrite_some _ unit, exec_of_unitCommand s command,
    unitWrite_isCommand parsed count short length]

/-- R180: so is the end of a group write that carries one of the five. -/
theorem exec_requestWrite_groupCommand (group : s.addressed a = some .group)
    (parsed : parseRequest .group bytes = .command i)
    (permitted : takenByGroup (bytes.headD 0) = true) :
    exec (.requestWrite a bytes) s = exec i s := by
  obtain ⟨code, n, params, rfl, count, short, length, command⟩ := parseRequest_command parsed
  rw [exec_requestWrite_some _ group, exec_of_groupCommand s command permitted,
    groupWrite_isCommand parsed count short length permitted]

end

/-! ## The checks of a request (R176) -/

/-- R180: the five codes. -/
theorem takenByGroup_iff (code : Byte) :
    takenByGroup code = true ↔ code.toNat ∈ [0x07, 0x08, 0x11, 0x12, 0x30] := by
  unfold takenByGroup
  split <;> simp_all

/-- R185: the command codes of the part, each with the length of its parameters. -/
def commandLengths : List (Nat × Nat) :=
  [(0x01, 0), (0x02, 0), (0x03, 0), (0x04, 2), (0x05, 0), (0x06, 0), (0x07, 0), (0x08, 0),
    (0x10, 2), (0x11, 3), (0x12, 3), (0x20, 15), (0x21, 16), (0x22, 2), (0x23, 2), (0x24, 2),
    (0x25, 12), (0x28, 0), (0x29, 0), (0x30, 0), (0x31, 0)]

theorem paramLength_eq_some_iff (code : Byte) (len : Nat) :
    paramLength code = some len ↔ (code.toNat, len) ∈ commandLengths := by
  rw [eq_comm]
  unfold paramLength commandLengths
  split <;> simp_all

section
variable (via : Via)

theorem parseRequest_of_short {bytes : List Byte} (short : bytes.length < 2) :
    parseRequest via bytes = .malformed := by
  match bytes with
  | [] => rfl
  | [_] => rfl
  | _ :: _ :: _ => simp at short

variable {code n : Byte} {params : List Byte}

/-- R176, the first check: the length byte. -/
theorem parseRequest_of_badLength (bad : 24 < n.toNat ∨ params.length ≠ n.toNat) :
    parseRequest via (code :: n :: params) = .malformed := if_pos bad

variable (short : n.toNat ≤ 24) (count : params.length = n.toNat)
include short count

theorem lengthByte_passes : ¬ (Config.requestParams < n.toNat ∨ params.length ≠ n.toNat) :=
  not_or.mpr ⟨Nat.not_lt.mpr short, not_not.mpr count⟩

/-- R176, the second check: the code. -/
theorem parseRequest_of_unknownCode (unknown : paramLength code = none) :
    parseRequest via (code :: n :: params) = .unknown := by
  refine (if_neg (lengthByte_passes short count)).trans ?_
  rw [unknown]

/-- R176, the third check: the command's own length. -/
theorem parseRequest_of_otherLength {len : Nat} (known : paramLength code = some len)
    (other : len ≠ n.toNat) : parseRequest via (code :: n :: params) = .malformed := by
  refine (if_neg (lengthByte_passes short count)).trans ?_
  rw [known]
  exact if_pos other.symm

end

/-- Settles O27: the end of a write by its address and bytes, and the checks of its request in their order. -/
theorem writeEnds : Obligations.WriteEnds := by
  refine ⟨fun _ _ => rfl, fun a bytes s => ?_,
    fun a bytes i s => ⟨exec_requestWrite_unitCommand, exec_requestWrite_groupCommand⟩,
    fun s n => ⟨?_, ?_⟩, takenByGroup_iff, fun via bytes => parseRequest_of_short via,
    ?_, fun via => ⟨rfl, rfl, rfl, rfl, rfl, rfl, rfl, rfl, rfl, rfl, rfl⟩,
    fun via x y z => ⟨rfl, rfl, rfl, rfl, rfl, rfl, rfl⟩, ?_, ?_⟩
  · cases address : s.addressed a with
    | none =>
      exact ⟨_, exec_requestWrite_none bytes address,
        fun _ => ⟨rfl, unchangedBut_quiet_bus s _⟩, nofun⟩
    | some via =>
      refine ⟨_, exec_requestWrite_some bytes address, nofun, ?_⟩
      rintro _ ⟨⟩
      cases bytes with
      | nil =>
        exact ⟨fun _ => ⟨rfl, rfl, unchangedBut_quiet_withEngine_bus s _ _⟩,
          fun h => absurd rfl h, fun h => absurd rfl h, fun h => absurd rfl h⟩
      | cons first rest =>
        refine ⟨nofun, fun _ noAbort refused => ?_, fun _ noAbort taken unit noCommand => ?_,
          fun _ taken group noCommand => ?_⟩
        · rw [writeEnds_of_refused (fun h => noAbort ⟨h.1, congrArg some h.2⟩) refused]
          exact discardWrite_leavesNoTrace s via
        · subst unit
          rw [writeEnds_of_unit (fun h => noAbort (congrArg some h)) taken]
          exact unitWrite_isAnswered _ noCommand
        · subst group
          rw [writeEnds_of_group taken]
          exact groupWrite_isDiscarded _ noCommand
  · simp only [endItems_eq, begunAt_unit_iff]
  · simp only [endItems_eq, begunAt_group_iff]
  · rintro via code n params lengths rfl
    refine ⟨parseRequest_of_badLength via, fun short count => ⟨fun unlisted => ?_,
      fun len listed other => ?_⟩⟩
    · exact parseRequest_of_unknownCode via short count (Option.eq_none_iff_forall_ne_some.mpr
        fun len known => unlisted len ((paramLength_eq_some_iff code len).mp known))
    · exact parseRequest_of_otherLength via short count
        ((paramLength_eq_some_iff code len).mpr listed) other
  · rintro via sel row col o st rm rh rl gm gh gl bm bh bl th tl i rfl
    exact ⟨rfl, rfl⟩
  · intros
    rfl

/-! ## Reads and ABORT (R178, R179) -/

section
variable {s : State} {a : BitVec 7} (n : Nat)

theorem exec_answerRead_unit (unit : s.addressed a = some .unit) :
    exec (.answerRead a n) s = .next (s.quiet.readAnswer n) := by
  show execAnswerRead a n s = _
  unfold execAnswerRead
  rw [unit]

theorem exec_answerRead_other (other : s.addressed a ≠ some .unit) :
    exec (.answerRead a n) s = .next (s.quiet.bus [.address false]) := by
  show execAnswerRead a n s = _
  unfold execAnswerRead
  split
  · contradiction
  · rfl
  · rfl

/-- R178: a read of an answer, which is consumed if a byte was sent. -/
theorem readAnswer_of_some {x : Answer} (ready : s.engine.answer = some x) :
    s.readAnswer n =
      (s.withEngine { s.engine with answer := if n = 0 then some x else none }).bus
        [.address true, .sent (answerSent x n)] := by
  unfold State.readAnswer
  rw [ready]
  dsimp only
  split
  · rw [← ready]
    rfl
  · rfl

/-- R178: a read of an EMPTY buffer. -/
theorem readAnswer_of_none (empty : s.engine.answer = none) :
    s.readAnswer n = s.bus [.address true,
      .sent (List.replicate n (if s.engine.hand = none then 0x81#8 else 0x80#8))] := by
  unfold State.readAnswer
  rw [empty]
  simp only [Engine.idle_iff]
  rfl

end

/-- R179: a command in hand after an ABORT; only a sweep has a mark. -/
def Job.marked (job : Job) : Job :=
  { job with sweep := job.sweep.map fun sw => { sw with abortMark := true } }

theorem Job.marked_of_sweep {job : Job} {sw : Sweep} (sweep : job.sweep = some sw) :
    job.marked = { job with sweep := some { sw with abortMark := true } } := by
  unfold Job.marked
  rw [sweep]
  rfl

theorem Job.marked_of_none {job : Job} (noSweep : job.sweep = none) : job.marked = job := by
  unfold Job.marked
  rw [noSweep, Option.map_none, ← noSweep]

/-- R179: an ABORT marks the command in hand. -/
theorem takeAbort_eq (s : State) :
    s.takeAbort = s.withEngine { s.engine with hand := s.engine.hand.map Job.marked } := by
  unfold State.takeAbort
  split
  · rename_i idle
    rw [idle, Option.map_none, ← idle]
    rfl
  · rename_i job hand
    split
    · rename_i noSweep
      rw [hand, Option.map_some, Job.marked_of_none noSweep, ← hand]
      rfl
    · rename_i sw sweep
      rw [hand, Option.map_some, Job.marked_of_sweep sweep]

/-- R179: ABORT, with what it does to the engine's block. -/
theorem exec_abort (n : Nat) (s : State) :
    exec (.abort n) s = .next ((s.quiet.withEngine
      ⟨s.engine.hand.map Job.marked, s.engine.answer, .none⟩).bus (s.endItems .unit 1)) := by
  show Host.Outcome.next s.quiet.abortEnds = _
  unfold State.abortEnds
  rw [takeAbort_eq]
  rfl

/-- Settles O28: a read by its address and the answer buffer, and ABORT by the command in hand. -/
theorem readsAndAborts : Obligations.ReadsAndAborts := by
  refine ⟨by decide, fun n w => ⟨BitVec.toNat_ofNat n 8, rfl, rfl⟩, fun a n s => ?_, fun n s =>
    ⟨_, exec_abort n s, rfl, unchangedBut_quiet_withEngine_bus s _ _,
      fun job sw hand sweep => ?_, fun job hand noSweep => ?_, fun idle => ?_⟩⟩
  · by_cases unit : s.addressed a = some .unit
    · refine ⟨_, exec_answerRead_unit n unit, fun other => absurd unit other,
        fun _ => ⟨fun x ready => ?_, fun empty => ?_⟩⟩
      · rw [readAnswer_of_some (s := s.quiet) n ready]
        exact ⟨rfl, rfl, unchangedBut_quiet_withEngine_bus s _ _⟩
      · rw [readAnswer_of_none (s := s.quiet) n empty]
        exact ⟨rfl, unchangedBut_quiet_bus s _⟩
    · exact ⟨_, exec_answerRead_other n unit, fun _ => ⟨rfl, unchangedBut_quiet_bus s _⟩,
        fun h => absurd h unit⟩
  · rw [State.bus_engine, State.withEngine_engine, hand, Option.map_some,
      Job.marked_of_sweep sweep]
  · show Engine.mk (s.engine.hand.map Job.marked) _ _ = Engine.mk s.engine.hand _ _
    rw [hand, Option.map_some, Job.marked_of_none noSweep]
  · show Engine.mk (s.engine.hand.map Job.marked) _ _ = Engine.mk s.engine.hand _ _
    rw [idle, Option.map_none]

/-! ## DESCRIBE (R181) -/

/-- R181, R185: the capability block and the geometry, byte by byte. -/
theorem describeAnswer_eq (g : Geometry) : describeAnswer g =
    [1, 0x02, 0x00, 16, 48, 127, 255, 0x07, 0xFF, 0x00, 0xFF, 0x0F, 0xFF, 2, 32, 1, 15, 6,
      0, 0, 0, 16, 0, 32, 0, 64, 0, 128, 1, 0, 96] ++ [byte (g.rows - 1), byte (g.cols - 1)] :=
  rfl

/-- Settles O29: DESCRIBE answers once its write is taken. -/
theorem describeAnswersTheCapabilities : Obligations.DescribeAnswersTheCapabilities := by
  intro s hs
  have geometry : (s.taken .unit 0x01).table = s.table :=
    (unchangedBut_taken s .unit 0x01).1 .table (by decide)
  refine ⟨_, exec_of_taken (code := 0x01) hs rfl, ?_⟩
  unfold State.startDescribe
  rw [geometry, describeAnswer_eq]
  exact ⟨answered_respond (code := 0x01) rfl _ _, rfl, rfl,
    ((unchangedBut_taken s .unit 0x01).trans (unchangedBut_respond _ _ _ _)).mono (by decide)⟩

end Sys2Proof.Machine
end

section
/-! PROOFS. The step (log entry 1): the front command runs, an empty queue idles, every command goes on (log entry 23); and the rows of the table operations that are not in progress (log entries 2 and 29). -/
namespace Sys2Proof.Machine

/-! ## One step (log entries 1 and 23) -/

/-- Settles O1: the command is exec's, run on the queue's rest. -/
theorem stepRunsTheFrontCommand : Obligations.StepRunsTheFrontCommand := by
  intro c rest s front
  unfold step
  rw [front]

theorem step_of_pending_nil {s : State} (empty : s.pending = []) : step s = .next s := by
  unfold step
  rw [empty]

theorem exec_next_keeps_pending (c : Instr) (s : State) :
    ∃ t, exec c s = .next t ∧ t.pending = s.pending := by
  obtain ⟨t, run, leaves⟩ := exec_leaves c s
  exact ⟨t, run, leaves.pending⟩

theorem goesOn_always (s : State) : goesOn s := by
  cases queue : s.pending with
  | nil => exact ⟨s, step_of_pending_nil queue⟩
  | cons c rest =>
    obtain ⟨t, run, _⟩ := exec_next_keeps_pending c (s.withPending rest)
    exact ⟨t, (stepRunsTheFrontCommand c rest s queue).trans run⟩

/-! ## Rows out of turn (log entry 2)

Each row looks for its own request in the operation in progress, and without it is left with nothing put out. -/

theorem nothingHappens_of_next {c : Instr} {s t : State} (run : exec c s = .next t)
    (quiet : t = s.quiet) : NothingHappens c s :=
  (nothingHappens_iff c s).mpr (quiet ▸ run)

section
variable {s : State}

/-- R21: the one row that serves three clients. -/
theorem findByKey_outOfTurn (walker : ∀ k, s.arbiter.walkerOp ≠ some (.find k))
    (engine : ∀ r q, s.arbiter.engineOp ≠ some (.find r q))
    (monitor : ∀ k, s.arbiter.monitorOp ≠ some (.find k)) : NothingHappens .findByKey s := by
  refine nothingHappens_of_next rfl ?_
  split
  · exact absurd ‹_› (walker _)
  · exact absurd ‹_› (engine _ _)
  · exact absurd ‹_› (monitor _)
  · rfl

/-! ### The walker's -/

theorem stampProbeFrame_outOfTurn (other : ∀ k f cs, s.arbiter.walkerOp ≠ some (.stamp k f cs)) :
    NothingHappens .stampProbeFrame s :=
  nothingHappens_of_next rfl (by split; exacts [absurd ‹_› (other _ _ _), rfl])

/-! ### The engine's -/

theorem findFirstAtOrAfter_outOfTurn
    (other : ∀ r q, s.arbiter.engineOp ≠ some (.findFirst r q)) :
    NothingHappens .findFirstAtOrAfter s :=
  nothingHappens_of_next rfl (by split; exacts [absurd ‹_› (other _ _), rfl])

theorem tableInsert_outOfTurn (other : ∀ i, s.arbiter.engineOp ≠ some (.insert i)) :
    NothingHappens .tableInsert s :=
  nothingHappens_of_next rfl (by split; exacts [absurd ‹_› (other _), rfl])

theorem tableAmend_outOfTurn (other : ∀ x i, s.arbiter.engineOp ≠ some (.amend x i)) :
    NothingHappens .tableAmend s :=
  nothingHappens_of_next rfl (by split; exacts [absurd ‹_› (other _ _), rfl])

theorem remove_outOfTurn (other : ∀ r q, s.arbiter.engineOp ≠ some (.remove r q)) :
    NothingHappens .remove s :=
  nothingHappens_of_next rfl (by split; exacts [absurd ‹_› (other _ _), rfl])

theorem sweepStep_outOfTurn (other : ∀ p f a v, s.arbiter.engineOp ≠ some (.sweepStep p f a v)) :
    NothingHappens .sweepStep s :=
  nothingHappens_of_next rfl (by split; exacts [absurd ‹_› (other _ _ _ _), rfl])

theorem statusRead_outOfTurn (other : s.arbiter.engineOp ≠ some .statusRead) :
    NothingHappens .statusRead s :=
  nothingHappens_of_next rfl (by split; exacts [absurd ‹_› other, rfl])

theorem geometryChange_outOfTurn (other : ∀ g, s.arbiter.engineOp ≠ some (.geometryChange g)) :
    NothingHappens .geometryChange s :=
  nothingHappens_of_next rfl (by split; exacts [absurd ‹_› (other _), rfl])

theorem protectionTest_outOfTurn (other : s.arbiter.engineOp ≠ some .protectionTest) :
    NothingHappens .protectionTest s :=
  nothingHappens_of_next rfl (by split; exacts [absurd ‹_› other, rfl])

/-! ### The monitor's -/

theorem promotionInsert_outOfTurn
    (other : ∀ k c kind f, s.arbiter.monitorOp ≠ some (.promote k c kind f)) :
    NothingHappens .promotionInsert s :=
  nothingHappens_of_next rfl (by split; exacts [absurd ‹_› (other _ _ _ _), rfl])

theorem faultUpdate_outOfTurn
    (other : ∀ k c kind f, s.arbiter.monitorOp ≠ some (.faultUpdate k c kind f)) :
    NothingHappens .faultUpdate s :=
  nothingHappens_of_next rfl (by split; exacts [absurd ‹_› (other _ _ _ _), rfl])

theorem healStep_outOfTurn (other : ∀ p f n, s.arbiter.monitorOp ≠ some (.heal p f n)) :
    NothingHappens .healStep s :=
  nothingHappens_of_next rfl (by split; exacts [absurd ‹_› (other _ _ _), rfl])

/-! ### The image store's -/

/-- Log entry 29: an operation that is not due is not asked for. -/
theorem askBegin_of_not_due {b : BeginReq} (notDue : s.store.due ≠ some b) : s.askBegin b = s :=
  if_neg notDue

theorem beginSave_outOfTurn (other : s.arbiter.storeOp ≠ some .beginSave)
    (notDue : s.store.due ≠ some .save) : NothingHappens .beginSave s := by
  refine nothingHappens_of_next rfl ?_
  rw [askBegin_of_not_due (s := s.quiet) notDue]
  split
  · exact absurd ‹_› other
  · rfl

theorem beginLoad_outOfTurn (other : s.arbiter.storeOp ≠ some .beginLoad)
    (notDue : s.store.due ≠ some .load) : NothingHappens .beginLoad s := by
  refine nothingHappens_of_next rfl ?_
  rw [askBegin_of_not_due (s := s.quiet) notDue]
  split
  · exact absurd ‹_› other
  · rfl

theorem saveRead_outOfTurn (other : ∀ p, s.arbiter.storeOp ≠ some (.saveRead p)) :
    NothingHappens .saveRead s :=
  nothingHappens_of_next rfl (by split; exacts [absurd ‹_› (other _), rfl])

theorem endSave_outOfTurn (other : s.arbiter.storeOp ≠ some .endSave) :
    NothingHappens .endSave s :=
  nothingHappens_of_next rfl (by split; exacts [absurd ‹_› other, rfl])

theorem loadGeometry_outOfTurn (other : ∀ g, s.arbiter.storeOp ≠ some (.loadGeometry g)) :
    NothingHappens .loadGeometry s :=
  nothingHappens_of_next rfl (by split; exacts [absurd ‹_› (other _), rfl])

theorem loadInsert_outOfTurn (other : ∀ p, s.arbiter.storeOp ≠ some (.loadInsert p)) :
    NothingHappens .loadInsert s :=
  nothingHappens_of_next rfl (by split; exacts [absurd ‹_› (other _), rfl])

/-- R166: the row ends a load either way. -/
theorem endLoad_outOfTurn (success : ∀ g, s.arbiter.storeOp ≠ some (.endLoadSuccess g))
    (failure : s.arbiter.storeOp ≠ some .endLoadFailure) : NothingHappens .endLoad s :=
  nothingHappens_of_next rfl (by split; exacts [absurd ‹_› (success _), absurd ‹_› failure, rfl])

end

/-- Settles O2: going on and the kept queue come from the walk over the commands, the rest row by row. -/
theorem everyStepGoesOn : Obligations.EveryStepGoesOn :=
  ⟨exec_next_keeps_pending, fun _ => step_of_pending_nil, goesOn_always, fun _ =>
    ⟨findByKey_outOfTurn, stampProbeFrame_outOfTurn, findFirstAtOrAfter_outOfTurn,
      tableInsert_outOfTurn, tableAmend_outOfTurn, remove_outOfTurn, sweepStep_outOfTurn,
      statusRead_outOfTurn, geometryChange_outOfTurn, protectionTest_outOfTurn,
      promotionInsert_outOfTurn, faultUpdate_outOfTurn, healStep_outOfTurn,
      beginSave_outOfTurn, saveRead_outOfTurn, endSave_outOfTurn, beginLoad_outOfTurn,
      loadGeometry_outOfTurn, loadInsert_outOfTurn, endLoad_outOfTurn⟩⟩

end Sys2Proof.Machine
end
